-- ==== Sys2Proof/Word.lean ====
section
/-! DEFINITION. The machine word of RXE: the 128-bit unit of every port and register
(spec/00_scope.md R6 `FXW`, R8; spec/20_memory.md R60). The arithmetic on it is in
Machine/Arith.lean. -/

namespace Sys2Proof

/-- A word: `FXW` = 128 bits, bit 0 least significant (R8). -/
abbrev Word := BitVec 128

/-- An `FX` value, held as the 128-bit two's-complement word whose signed integer value `i`
stands for `i / 2^64` (R9, R100). -/
abbrev Fx := BitVec 128

/-- A `U32` register: an unsigned integer `0 .. 2^32 - 1` (R9). -/
abbrev U32 := BitVec 32

end Sys2Proof
end

