-- ==== Sys2Proof/Syntax.lean ====
section
/-! DEFINITION. The commands of RXE as syntax: one constructor for each of the 51 rows of
spec/opcode_table.json (spec/30_encoding.md R84), with the header fields the row leaves free and
its operand words in order. -/

namespace Sys2Proof

/-- The target fields of a header that addresses a unit of a voice: `V`, `U` and `K` (R80).
They are kept as the header carries them; whether they name a unit is checked when the command
runs (spec/60_exceptions.md R297 steps 4 to 6). -/
structure Target where
  v : BitVec 8
  u : BitVec 8
  k : BitVec 8
deriving DecidableEq, Repr

/-- A command. Every operand is one whole word (R83), read by its type when the command runs. -/
inductive Instr where
  /- system and register access, spec/49_system.md -/
  | nop
  | sysReset
  | cfgWr (k : BitVec 8) (value : Word)
  | cfgRd (k : BitVec 8)
  | stRd (t : Target) (field : Word)
  | stWr (t : Target) (field value : Word)
  | sysSuspend
  | sysResume
  | mdlWr (u : BitVec 8) (m e value : Word)
  | mdlRd (u : BitVec 8) (m e : Word)
  /- Envelope, spec/41_envelope.md -/
  | envInit (t : Target)
      (srate attackMs decayMs sustainDb releaseMs tAtt tDec tRel : Word)
  | envAtk (t : Target) (scale : Word)
  | envDec (t : Target)
  | envSus (t : Target)
  | envRel (t : Target)
  | envProc (t : Target)
  | envRst (t : Target)
  /- Filter, spec/42_filter.md -/
  | fltLp (t : Target) (srate freq q : Word)
  | fltBp (t : Target) (srate freq q : Word)
  | fltHp (t : Target) (srate freq q : Word)
  | fltDf1 (t : Target) (in0 in1 in2 in3 : Word)
  | fltClr (t : Target) (in0 in1 in2 in3 : Word)
  | fltRst (t : Target)
  /- Mallet and Noise, spec/43_mallet_noise.md -/
  | mltTrig (t : Target) (srate freq : Word)
  | mltProc (t : Target)
  | mltClr (t : Target)
  | nseInit (t : Target)
      (srate mode freq q attackMs decayMs sustainDb releaseMs velFreq velQ : Word)
  | nseAtk (t : Target) (vel : Word)
  | nseProc (t : Target)
  | nseRel (t : Target)
  | nseClr (t : Target)
  /- Partial, spec/44_partial.md -/
  | prtUpd (t : Target) (f0 ratio ratioMax vel isRelease : Word)
  | prtProc (t : Target) (in0 in1 in2 in3 : Word)
  | prtClr (t : Target)
  /- Waveguide, spec/45_waveguide.md -/
  | wgdUpd (t : Target) (f0 vel isRelease : Word)
  | wgdProc (t : Target) (in0 in1 in2 in3 : Word)
  | wgdClr (t : Target)
  /- Resonator, spec/46_resonator.md -/
  | resSetp (t : Target)
      (srate on model npartials decay damp tone hit rel inharm cut
        radius0 radius1 radius2 radius3 velDecay velHit velInharm : Word)
  | resAct (t : Target)
  | resUpd (t : Target) (freq vel isRelease : Word) (model : List Word)
  | resProc (t : Target) (in0 in1 in2 in3 : Word)
  | resClr (t : Target)
  /- Voice, spec/47_voice.md -/
  | voiTrig (t : Target) (srate note velocity malletFreq : Word)
  | voiRel (t : Target)
  | voiPitch (t : Target) (coarseA coarseB fineA fineB : Word)
  | voiUpd (t : Target)
  | voiClr (t : Target)
  /- pool, notes, render, spec/48_pool_render.md -/
  | poolNext
  | noteOn (note velocity : Word)
  | noteOff (note : Word)
  | render (frameCount : Word)
deriving DecidableEq, Repr

/-- The seven status codes of spec/60_exceptions.md R295. -/
inductive Status where
  | ok
  | opcode
  | reserved
  | voice
  | unit
  | index
  | field
deriving DecidableEq, Repr

/-- The two sides of a voice and of the model memory. -/
inductive Side where
  | a
  | b
deriving DecidableEq, Repr

/-- The units of one voice that a header's `U` field can select (R82). -/
inductive UnitSel where
  | voice
  | mallet
  | malletFlt
  | noise
  | noiseFlt
  | noiseEnv
  | res (sd : Side)
  | post (sd : Side)
  | wg (sd : Side)
  | part (sd : Side)
deriving DecidableEq, Repr

end Sys2Proof
end

