-- ==== Sys2Proof/WellFormed.lean ====
section
/-! DEFINITION. When a command is well formed: its header fields are ones its row of
spec/30_encoding.md R84 admits (`V` below the number of voices, `U` a legal selector, `K` in range)
and it has as many operand words as the row says. Operand words are never ill formed: out-of-range
values are clamped, defaulted or answered with a status (R83, R86). -/

namespace Sys2Proof

/-- The legal `U` values of the FLT rows (R84). -/
def filterUnits : List (BitVec 8) := [0x02#8, 0x04#8, 0x11#8, 0x21#8]

/-- The fourteen selectors of R82, the legal `U` values of `ST.RD` and `ST.WR`. -/
def allUnits : List (BitVec 8) :=
  [0x00#8, 0x01#8, 0x02#8, 0x03#8, 0x04#8, 0x05#8,
   0x10#8, 0x11#8, 0x12#8, 0x13#8, 0x20#8, 0x21#8, 0x22#8, 0x23#8]

/-- Whether a selector is a Partial's (R82): then `K` is the Partial number. -/
def isPartialUnit (u : BitVec 8) : Bool := u == 0x13#8 || u == 0x23#8

/-- A target is legal for a row whose legal selectors are `us` (R80, R84). -/
def Target.wf (nv : Nat) (us : List (BitVec 8)) (t : Target) : Bool :=
  decide (t.v.toNat < nv) && us.contains t.u &&
    (if isPartialUnit t.u then decide (t.k.toNat ≤ 63) else t.k == 0#8)

/-- A command is well formed on a machine with `nv` voices (R84). -/
def Instr.wf (nv : Nat) : Instr → Bool
  | .nop | .sysReset | .sysSuspend | .sysResume => true
  | .poolNext | .noteOn _ _ | .noteOff _ | .render _ => true
  | .cfgWr k _ | .cfgRd k => decide (k.toNat ≤ 6)
  | .mdlWr u _ _ _ | .mdlRd u _ _ => u == 0x10#8 || u == 0x20#8
  | .stRd t _ | .stWr t _ _ => t.wf nv allUnits
  | .envInit t _ _ _ _ _ _ _ _ | .envAtk t _ | .envDec t | .envSus t | .envRel t
  | .envProc t | .envRst t => t.wf nv [0x05#8]
  | .fltLp t _ _ _ | .fltBp t _ _ _ | .fltHp t _ _ _ | .fltDf1 t _ _ _ _
  | .fltClr t _ _ _ _ | .fltRst t => t.wf nv filterUnits
  | .mltTrig t _ _ | .mltProc t | .mltClr t => t.wf nv [0x01#8]
  | .nseInit t _ _ _ _ _ _ _ _ _ _ | .nseAtk t _ | .nseProc t | .nseRel t
  | .nseClr t => t.wf nv [0x03#8]
  | .prtUpd t _ _ _ _ _ | .prtProc t _ _ _ _ | .prtClr t => t.wf nv [0x13#8, 0x23#8]
  | .wgdUpd t _ _ _ | .wgdProc t _ _ _ _ | .wgdClr t => t.wf nv [0x12#8, 0x22#8]
  | .resSetp t _ _ _ _ _ _ _ _ _ _ _ _ _ _ _ _ _ _ | .resAct t | .resProc t _ _ _ _
  | .resClr t => t.wf nv [0x10#8, 0x20#8]
  | .resUpd t _ _ _ model => t.wf nv [0x10#8, 0x20#8] && model.length == 64
  | .voiTrig t _ _ _ _ | .voiRel t | .voiPitch t _ _ _ _ | .voiUpd t | .voiClr t =>
    t.wf nv [0x00#8]

end Sys2Proof
end

