-- ==== Sys2Proof/Decode.lean ====
section
/-! DEFINITION. The decoder, total on any stream of port words, and after it the encoder, both from
spec/30_encoding.md R80 to R88. The decoder makes the checks 1 to 3 of spec/60_exceptions.md R297,
which depend on the header alone; the checks 4 to 7 need the state or the operands and are made,
in that order, by the meaning of the command (log entry 9). -/

namespace Sys2Proof

/-- What a row of R84 requires of the header fields. -/
inductive RowKind where
  /-- units column `-`: `V`, `U` and `K` must be 0 -/
  | plain
  /-- `CFG.WR`, `CFG.RD`: `V` and `U` must be 0, `K` is the register index -/
  | cfg
  /-- `MDL.WR`, `MDL.RD`: `V` and `K` must be 0, `U` is the side -/
  | side
  /-- the row addresses a unit of a voice -/
  | unit
deriving DecidableEq, Repr

/-- The table of R84: for an opcode of the table, the kind of its row and its `n_op`. -/
def opcodeRow : Nat → Option (RowKind × Nat)
  | 0x00 => some (.plain, 0)
  | 0x01 => some (.plain, 0)
  | 0x02 => some (.cfg, 1)
  | 0x03 => some (.cfg, 0)
  | 0x04 => some (.unit, 1)
  | 0x05 => some (.unit, 2)
  | 0x06 => some (.plain, 0)
  | 0x07 => some (.plain, 0)
  | 0x08 => some (.side, 3)
  | 0x09 => some (.side, 2)
  | 0x10 => some (.unit, 8)
  | 0x11 => some (.unit, 1)
  | 0x12 => some (.unit, 0)
  | 0x13 => some (.unit, 0)
  | 0x14 => some (.unit, 0)
  | 0x15 => some (.unit, 0)
  | 0x16 => some (.unit, 0)
  | 0x20 => some (.unit, 3)
  | 0x21 => some (.unit, 3)
  | 0x22 => some (.unit, 3)
  | 0x23 => some (.unit, 4)
  | 0x24 => some (.unit, 4)
  | 0x25 => some (.unit, 0)
  | 0x30 => some (.unit, 2)
  | 0x31 => some (.unit, 0)
  | 0x32 => some (.unit, 0)
  | 0x40 => some (.unit, 10)
  | 0x41 => some (.unit, 1)
  | 0x42 => some (.unit, 0)
  | 0x43 => some (.unit, 0)
  | 0x44 => some (.unit, 0)
  | 0x50 => some (.unit, 5)
  | 0x51 => some (.unit, 4)
  | 0x52 => some (.unit, 0)
  | 0x60 => some (.unit, 3)
  | 0x61 => some (.unit, 4)
  | 0x62 => some (.unit, 0)
  | 0x70 => some (.unit, 18)
  | 0x71 => some (.unit, 0)
  | 0x72 => some (.unit, 67)
  | 0x73 => some (.unit, 4)
  | 0x74 => some (.unit, 0)
  | 0x80 => some (.unit, 4)
  | 0x81 => some (.unit, 0)
  | 0x82 => some (.unit, 4)
  | 0x83 => some (.unit, 0)
  | 0x84 => some (.unit, 0)
  | 0x90 => some (.plain, 0)
  | 0x91 => some (.plain, 2)
  | 0x92 => some (.plain, 1)
  | 0x93 => some (.plain, 1)
  | _ => none

/-- `RSV` = bits 127:32 of a header (R80). -/
def headerRsv (h : Word) : BitVec 96 := h.extractLsb' 32 96

/-- `OPC` = bits 31:24 of a header (R80). -/
def headerOpc (h : Word) : BitVec 8 := h.extractLsb' 24 8

/-- The target fields `V` = bits 23:16, `U` = bits 15:8, `K` = bits 7:0 of a header (R80). -/
def headerTarget (h : Word) : Target :=
  { v := h.extractLsb' 16 8, u := h.extractLsb' 8 8, k := h.extractLsb' 0 8 }

/-- Whether a field that the row requires to be 0 is not 0 (R297 step 3). The `K` of a row that
addresses a unit of a voice is checked in step 6, by `Machine.checkTarget` (log entry 25). -/
def reservedFieldSet (kind : RowKind) (t : Target) : Bool :=
  match kind with
  | .plain => t.v != 0#8 || t.u != 0#8 || t.k != 0#8
  | .cfg => t.v != 0#8 || t.u != 0#8
  | .side => t.v != 0#8 || t.k != 0#8
  | .unit => false

/-- The command of an opcode of the table, its target fields and its operand words `ops`, operand
`j` being the `j`th of them (R84). -/
def buildInstr (opc : Nat) (t : Target) (ops : List Word) : Option Instr :=
  let op := fun (j : Nat) => ops.getD j 0#128
  match opc with
  | 0x00 => some .nop
  | 0x01 => some .sysReset
  | 0x02 => some (.cfgWr t.k (op 0))
  | 0x03 => some (.cfgRd t.k)
  | 0x04 => some (.stRd t (op 0))
  | 0x05 => some (.stWr t (op 0) (op 1))
  | 0x06 => some .sysSuspend
  | 0x07 => some .sysResume
  | 0x08 => some (.mdlWr t.u (op 0) (op 1) (op 2))
  | 0x09 => some (.mdlRd t.u (op 0) (op 1))
  | 0x10 => some (.envInit t (op 0) (op 1) (op 2) (op 3) (op 4) (op 5) (op 6) (op 7))
  | 0x11 => some (.envAtk t (op 0))
  | 0x12 => some (.envDec t)
  | 0x13 => some (.envSus t)
  | 0x14 => some (.envRel t)
  | 0x15 => some (.envProc t)
  | 0x16 => some (.envRst t)
  | 0x20 => some (.fltLp t (op 0) (op 1) (op 2))
  | 0x21 => some (.fltBp t (op 0) (op 1) (op 2))
  | 0x22 => some (.fltHp t (op 0) (op 1) (op 2))
  | 0x23 => some (.fltDf1 t (op 0) (op 1) (op 2) (op 3))
  | 0x24 => some (.fltClr t (op 0) (op 1) (op 2) (op 3))
  | 0x25 => some (.fltRst t)
  | 0x30 => some (.mltTrig t (op 0) (op 1))
  | 0x31 => some (.mltProc t)
  | 0x32 => some (.mltClr t)
  | 0x40 => some (.nseInit t (op 0) (op 1) (op 2) (op 3) (op 4) (op 5) (op 6) (op 7)
      (op 8) (op 9))
  | 0x41 => some (.nseAtk t (op 0))
  | 0x42 => some (.nseProc t)
  | 0x43 => some (.nseRel t)
  | 0x44 => some (.nseClr t)
  | 0x50 => some (.prtUpd t (op 0) (op 1) (op 2) (op 3) (op 4))
  | 0x51 => some (.prtProc t (op 0) (op 1) (op 2) (op 3))
  | 0x52 => some (.prtClr t)
  | 0x60 => some (.wgdUpd t (op 0) (op 1) (op 2))
  | 0x61 => some (.wgdProc t (op 0) (op 1) (op 2) (op 3))
  | 0x62 => some (.wgdClr t)
  | 0x70 => some (.resSetp t (op 0) (op 1) (op 2) (op 3) (op 4) (op 5) (op 6) (op 7)
      (op 8) (op 9) (op 10) (op 11) (op 12) (op 13) (op 14) (op 15) (op 16) (op 17))
  | 0x71 => some (.resAct t)
  | 0x72 => some (.resUpd t (op 0) (op 1) (op 2) (ops.drop 3))
  | 0x73 => some (.resProc t (op 0) (op 1) (op 2) (op 3))
  | 0x74 => some (.resClr t)
  | 0x80 => some (.voiTrig t (op 0) (op 1) (op 2) (op 3))
  | 0x81 => some (.voiRel t)
  | 0x82 => some (.voiPitch t (op 0) (op 1) (op 2) (op 3))
  | 0x83 => some (.voiUpd t)
  | 0x84 => some (.voiClr t)
  | 0x90 => some .poolNext
  | 0x91 => some (.noteOn (op 0) (op 1))
  | 0x92 => some (.noteOff (op 0))
  | 0x93 => some (.render (op 0))
  | _ => none

/-- The checks 1 to 3 of R297 on a header, and the command that a header and its operand words
stand for. -/
def decodeCommand (h : Word) (ops : List Word) : Except Status Instr :=
  match opcodeRow (headerOpc h).toNat with
  | none => .error .opcode
  | some (kind, _) =>
    if headerRsv h ≠ 0#96 then .error .reserved
    else if reservedFieldSet kind (headerTarget h) then .error .reserved
    else match buildInstr (headerOpc h).toNat (headerTarget h) ops with
      | none => .error .opcode
      | some i => .ok i

/-- What the engine finds on the command port. -/
inductive Fetched where
  /-- the words of the next command have not all arrived (spec/20_memory.md R69) -/
  | wait
  /-- a command that a decode check rejects, and the words after it -/
  | reject (e : Status) (rest : List Word)
  /-- a command, and the words after it -/
  | command (i : Instr) (rest : List Word)
deriving DecidableEq, Repr

/-- Takes the next command from the words on the command port. The `n_op` operand words of a known
opcode are taken whatever the later checks say; an unknown opcode takes none (R87). -/
def decode : List Word → Fetched
  | [] => .wait
  | h :: rest =>
    match opcodeRow (headerOpc h).toNat with
    | none => .reject .opcode rest
    | some (_, nOp) =>
      if rest.length < nOp then .wait
      else match decodeCommand h (rest.take nOp) with
        | .error e => .reject e (rest.drop nOp)
        | .ok i => .command i (rest.drop nOp)

/-- The header word `{RSV = 0, OPC, V, U, K}` (R80). -/
def header (opc v u k : BitVec 8) : Word := 0#96 ++ opc ++ v ++ u ++ k

/-- The header of a command that addresses a unit. -/
def unitHeader (opc : BitVec 8) (t : Target) : Word := header opc t.v t.u t.k

/-- The words of a command on the command port: its header, then its operands in the order of
R84. -/
def encode : Instr → List Word
  | .nop => [header 0x00 0 0 0]
  | .sysReset => [header 0x01 0 0 0]
  | .cfgWr k value => [header 0x02 0 0 k, value]
  | .cfgRd k => [header 0x03 0 0 k]
  | .stRd t field => [unitHeader 0x04 t, field]
  | .stWr t field value => [unitHeader 0x05 t, field, value]
  | .sysSuspend => [header 0x06 0 0 0]
  | .sysResume => [header 0x07 0 0 0]
  | .mdlWr u m e value => [header 0x08 0 u 0, m, e, value]
  | .mdlRd u m e => [header 0x09 0 u 0, m, e]
  | .envInit t srate attackMs decayMs sustainDb releaseMs tAtt tDec tRel =>
    [unitHeader 0x10 t, srate, attackMs, decayMs, sustainDb, releaseMs, tAtt, tDec, tRel]
  | .envAtk t scale => [unitHeader 0x11 t, scale]
  | .envDec t => [unitHeader 0x12 t]
  | .envSus t => [unitHeader 0x13 t]
  | .envRel t => [unitHeader 0x14 t]
  | .envProc t => [unitHeader 0x15 t]
  | .envRst t => [unitHeader 0x16 t]
  | .fltLp t srate freq q => [unitHeader 0x20 t, srate, freq, q]
  | .fltBp t srate freq q => [unitHeader 0x21 t, srate, freq, q]
  | .fltHp t srate freq q => [unitHeader 0x22 t, srate, freq, q]
  | .fltDf1 t in0 in1 in2 in3 => [unitHeader 0x23 t, in0, in1, in2, in3]
  | .fltClr t in0 in1 in2 in3 => [unitHeader 0x24 t, in0, in1, in2, in3]
  | .fltRst t => [unitHeader 0x25 t]
  | .mltTrig t srate freq => [unitHeader 0x30 t, srate, freq]
  | .mltProc t => [unitHeader 0x31 t]
  | .mltClr t => [unitHeader 0x32 t]
  | .nseInit t srate mode freq q attackMs decayMs sustainDb releaseMs velFreq velQ =>
    [unitHeader 0x40 t, srate, mode, freq, q, attackMs, decayMs, sustainDb, releaseMs,
      velFreq, velQ]
  | .nseAtk t vel => [unitHeader 0x41 t, vel]
  | .nseProc t => [unitHeader 0x42 t]
  | .nseRel t => [unitHeader 0x43 t]
  | .nseClr t => [unitHeader 0x44 t]
  | .prtUpd t f0 ratio ratioMax vel isRelease =>
    [unitHeader 0x50 t, f0, ratio, ratioMax, vel, isRelease]
  | .prtProc t in0 in1 in2 in3 => [unitHeader 0x51 t, in0, in1, in2, in3]
  | .prtClr t => [unitHeader 0x52 t]
  | .wgdUpd t f0 vel isRelease => [unitHeader 0x60 t, f0, vel, isRelease]
  | .wgdProc t in0 in1 in2 in3 => [unitHeader 0x61 t, in0, in1, in2, in3]
  | .wgdClr t => [unitHeader 0x62 t]
  | .resSetp t srate on model npartials decay damp tone hit rel inharm cut
      radius0 radius1 radius2 radius3 velDecay velHit velInharm =>
    [unitHeader 0x70 t, srate, on, model, npartials, decay, damp, tone, hit, rel, inharm, cut,
      radius0, radius1, radius2, radius3, velDecay, velHit, velInharm]
  | .resAct t => [unitHeader 0x71 t]
  | .resUpd t freq vel isRelease model => unitHeader 0x72 t :: freq :: vel :: isRelease :: model
  | .resProc t in0 in1 in2 in3 => [unitHeader 0x73 t, in0, in1, in2, in3]
  | .resClr t => [unitHeader 0x74 t]
  | .voiTrig t srate note velocity malletFreq =>
    [unitHeader 0x80 t, srate, note, velocity, malletFreq]
  | .voiRel t => [unitHeader 0x81 t]
  | .voiPitch t coarseA coarseB fineA fineB =>
    [unitHeader 0x82 t, coarseA, coarseB, fineA, fineB]
  | .voiUpd t => [unitHeader 0x83 t]
  | .voiClr t => [unitHeader 0x84 t]
  | .poolNext => [header 0x90 0 0 0]
  | .noteOn note velocity => [header 0x91 0 0 0, note, velocity]
  | .noteOff note => [header 0x92 0 0 0, note]
  | .render frameCount => [header 0x93 0 0 0, frameCount]

/-- `n_op` of a header's opcode, 0 for an unknown one (R87). -/
def headerNOp (h : Word) : Nat :=
  match opcodeRow (headerOpc h).toNat with
  | none => 0
  | some (_, n) => n

/-- The port words of an instruction whose bits are `w`: word `j` is bits `128 j + 127 : 128 j`
of `w`, every bit at or above `nbits` is 0, and there are as many words as the opcode of the
first one has (R88). -/
def portWords (nbits w : Nat) : List Word :=
  let bits := w % 2 ^ nbits
  let h := BitVec.ofNat 128 bits
  (List.range (1 + headerNOp h)).map fun j => BitVec.ofNat 128 (bits >>> (128 * j))

/-- The command the decoder reads from an instruction whose bits are `w` (bit 0 is bit 0 of the
header, operand words follow from bit 128 up); `none` where the decoder refuses. -/
def decodeTableWord (nbits w : Nat) : Option Instr :=
  match decode (portWords nbits w) with
  | .command i _ => some i
  | _ => none

/-- The sixteen bytes of a word in the serial order of R61: byte 0 holds bits 7 to 0. -/
def wordBytes (w : Word) : List (BitVec 8) :=
  (List.range 16).map fun j => w.extractLsb' (8 * j) 8

/-- The word that a list of bytes serialises, byte 0 least significant (R61). -/
def bytesWord : List (BitVec 8) → Word
  | [] => 0
  | b :: bs => (bytesWord bs <<< 8) ||| b.setWidth 128

end Sys2Proof
end

