-- ==== Sys2Proof/Config.lean ====
section
/-! DEFINITION. What an implementation of RXE fixes: the sizes the spec settles, the OPEN data
parameters (a record that `Machine.State` carries unchanged), and the OPEN functions, which are
free values without a body. -/

namespace Sys2Proof

/-- The two legal values of `SILENCE_MODE` (spec/00_scope.md R7; spec/90_conflicts.md C1). -/
inductive SilenceMode where
  | loudCounts
  | quietCounts
deriving DecidableEq, Repr

/-- The law `COUPLE_DY` from the split amount to `dy` (R7): the identity, which is its default, or
any other function, for which the opaque `Config.coupleDyOpen` stands (log entry 6). -/
inductive CoupleLaw where
  | identity
  | other
deriving DecidableEq, Repr

/-- The OPEN parameters of R6 and R7 that are data. `NV`, the remaining one, is the number of
voices a `Machine.State` holds. No command reads or writes this record as state; it is a field of
the state so that every statement about all states holds for all legal values (log entry 7). -/
structure Params where
  /-- `WG_LEN`, entries of one delay buffer; legal range 2 .. 2^31 (R6). -/
  wgLen : Nat
  /-- `SILENCE_MODE` (R7). -/
  silenceMode : SilenceMode
  /-- `COUPLE_THRESH` in Hz (R7). -/
  coupleThresh : Fx
  /-- which law `COUPLE_DY` is (R7) -/
  coupleLaw : CoupleLaw
deriving DecidableEq, Repr

namespace Config

/-- The defaults of R6 and R7: `WG_LEN` = 8192, `loud_counts`, `COUPLE_THRESH` = 4 Hz, `COUPLE_DY`
the identity. -/
def defaultParams : Params :=
  { wgLen := 8192, silenceMode := .loudCounts, coupleThresh := 0x40000000000000000#128
    coupleLaw := .identity }

/-- The default of `NV` (R6). -/
def defaultNv : Nat := 8

/-- `NPART`: Partials owned by one Resonator (R6). -/
abbrev npart : Nat := 64

/-- `MDL_LEN` and `NMODEL` (R6): entries per model table, models per side. -/
abbrev mdlLen : Nat := 64

/-- `FRAMES_MAX` = 2^32 - 1 (R6). -/
abbrev framesMax : Nat := 4294967295

/-- `NUM.exp` (spec/40_arith.md R108) outside the argument 0: total and pure (R109), otherwise open.
`Machine.numExp` adds the value at 0 (spec/92_eei_decisions.md D3). Free value, log entries 5
and 22. -/
opaque numExpOpen : Fx → Fx

/-- `NUM.ln` (R108, R109) outside the argument 1, which `Machine.numLn` adds (D3). Free value, log
entries 5 and 22. -/
opaque numLnOpen : Fx → Fx

/-- `NUM.sin` (R108, R109) outside the argument 0, which `Machine.numSin` adds (D3). Free value, log
entries 5 and 22. -/
opaque numSinOpen : Fx → Fx

/-- `NUM.cos` (R108, R109) outside the argument 0, which `Machine.numCos` adds (D3). Free value, log
entries 5 and 22. -/
opaque numCosOpen : Fx → Fx

/-- `NUM.sqrt` (R108, R109) outside the arguments 0 and 1, which `Machine.numSqrt` adds (D3;
spec/44_partial.md R191). Free value, log entries 5, 22 and 23. -/
opaque numSqrtOpen : Fx → Fx

/-- `NUM.pow` outside the arguments property P3 of R109 settles and `pow(1, 0)`; `Machine.numPow`
adds those. Free value, log entries 5 and 23. -/
opaque numPowOpen : Fx → Fx → Fx

/-- `COUPLE_DY` (R7) where it is not the identity: an OPEN function from the split amount to `dy`,
which `Machine.voiCoupleDy` selects. Free value, log entry 6. -/
opaque coupleDyOpen : Fx → Fx

end Config

end Sys2Proof
end

