-- ==== Sys2Proof/Machine/State.lean ====
section
/-! DEFINITION. The state of RXE (spec/10_state.md), plain data: every register of every unit under
its own name, the delay buffers, the model memory, and the three port streams, which are the model's
own fields; with the reset value of each. -/

namespace Sys2Proof.Machine

/-! ### Values with a fixed set of names -/

/-- `ENVSTATE` (spec/00_scope.md R9). -/
inductive EnvState where
  | off
  | attack
  | decay
  | sustain
  | release
deriving DecidableEq, Repr

/-- `FMODE` (R9). -/
inductive FMode where
  | lp
  | bp
  | hp
deriving DecidableEq, Repr

/-- A `V4`: four independent `FX` lanes (R9; spec/40_arith.md R114). -/
structure V4 where
  l0 : Fx
  l1 : Fx
  l2 : Fx
  l3 : Fx
deriving DecidableEq, Repr

/-- `v4_zero` (R107). -/
def V4.zero : V4 := { l0 := 0#128, l1 := 0#128, l2 := 0#128, l3 := 0#128 }

/-! ### Memories -/

/-- A word-addressed memory: the words that are not zero, by rising address. RXE has no byte
addresses (spec/20_memory.md R60), so a cell is one word; an address that is not listed reads as
`Memory.unlisted` (log entry 8). -/
abbrev Memory := List (Nat × Word)

/-- What an unlisted address reads as: both memories reset to 0 (spec/10_state.md R35). -/
def Memory.unlisted : Word := 0#128

/-- The canonical form: addresses strictly rise and no entry holds the unlisted value. -/
def Memory.wf (m : Memory) : Bool :=
  decide (m.Pairwise fun x y => x.1 < y.1) && m.all fun c => c.2 != Memory.unlisted

/-- Every listed address lies below `n`. -/
def Memory.below (n : Nat) (m : Memory) : Bool := m.all fun c => decide (c.1 < n)

/-! ### Units -/

/-- Envelope registers (R25). -/
structure Envelope where
  state : EnvState
  env : Fx
  scale : Fx
  att : Fx
  dec : Fx
  sus : Fx
  rel : Fx
  ta : Fx
  td : Fx
  tr : Fx
  ab : Fx
  ac : Fx
  db : Fx
  dc : Fx
  rb : Fx
  rc : Fx
deriving DecidableEq, Repr

/-- Envelope reset values (R25). -/
def Envelope.reset : Envelope :=
  { state := .off, env := 0, scale := 0, att := 0, dec := 0, sus := 0, rel := 0,
    ta := 0, td := 0, tr := 0, ab := 0, ac := 0, db := 0, dc := 0, rb := 0, rc := 0 }

/-- Filter registers (R26). The coefficients are scalar; a history register holds one value per
lane, so `α` is `Fx` for `L` = 1 (`mallet.flt`, `noise.flt`) and `V4` for `L` = 4 (`post`). -/
structure BiquadFilter (α : Type) where
  a1 : Fx
  a2 : Fx
  b0 : Fx
  b1 : Fx
  b2 : Fx
  x0 : α
  x1 : α
  x2 : α
  y0 : α
  y1 : α
  y2 : α
deriving DecidableEq, Repr

/-- Filter reset values, `z` being the zero of a history register (R26). -/
def BiquadFilter.resetWith {α : Type} (z : α) : BiquadFilter α :=
  { a1 := 0, a2 := 0, b0 := 0, b1 := 0, b2 := 0,
    x0 := z, x1 := z, x2 := z, y0 := z, y1 := z, y2 := z }

/-- Mallet registers and the owned Filter (R27). -/
structure Mallet where
  impulse : Fx
  env : Fx
  elapsed : U32
  flt : BiquadFilter Fx
deriving DecidableEq, Repr

/-- Mallet reset values (R27). -/
def Mallet.reset : Mallet :=
  { impulse := 0, env := 0, elapsed := 0, flt := .resetWith 0#128 }

/-- Noise registers and the owned Filter and Envelope (R28). -/
structure Noise where
  vel : Fx
  freq : Fx
  q : Fx
  mode : FMode
  velFreq : Fx
  velQ : Fx
  filterActive : Bool
  srate : Fx
  flt : BiquadFilter Fx
  env : Envelope
deriving DecidableEq, Repr

/-- Noise reset values (R28). -/
def Noise.reset : Noise :=
  { vel := 0, freq := 0, q := 0, mode := .lp, velFreq := 0, velQ := 0, filterActive := false,
    srate := 0, flt := .resetWith 0#128, env := .reset }

/-- Partial registers (R29). The register `k` is hard-wired to the Partial's number plus one, so
no field holds it (log entry 13). -/
structure Partial where
  decay : Fx
  damp : Fx
  tone : Fx
  hit : Fx
  rel : Fx
  inharm : Fx
  velDecay : Fx
  velHit : Fx
  velInharm : Fx
  srate : Fx
  a0 : Fx
  a1 : Fx
  a2 : Fx
  b0 : Fx
  b2 : Fx
  x1 : V4
  x2 : V4
  y1 : V4
  y2 : V4
deriving DecidableEq, Repr

/-- Partial reset values: the inert set and zeros (R29). -/
def Partial.reset : Partial :=
  { decay := 0, damp := 0, tone := 0, hit := 0, rel := 0, inharm := 0, velDecay := 0, velHit := 0,
    velInharm := 0, srate := 0, a0 := 0x10000000000000000#128, a1 := 0, a2 := 0, b0 := 0, b2 := 0,
    x1 := .zero, x2 := .zero, y1 := .zero, y2 := .zero }

/-- The 64 Partials of one Resonator (R20, R31). -/
abbrev Bank := Vector Partial Config.npart

/-- Waveguide registers and the delay buffer (R30). The word at address `4 a + l` of `buf` is lane
`l` of entry `a`. -/
structure Waveguide where
  isClosed : Bool
  srate : Fx
  decay : Fx
  radius : V4
  rel : Fx
  velDecay : Fx
  readPtr : U32
  writePtr : U32
  tubeDecay : Fx
  tlen : U32
  yPrev : V4
  buf : Memory
deriving DecidableEq, Repr

/-- Waveguide reset values (R30). -/
def Waveguide.reset : Waveguide :=
  { isClosed := false, srate := 0, decay := 0, radius := .zero, rel := 0, velDecay := 0,
    readPtr := 0, writePtr := 0, tubeDecay := 0, tlen := 0, yPrev := .zero, buf := [] }

/-- Resonator registers and the owned units (R31). -/
structure Resonator where
  on : Bool
  model : BitVec 8
  npartials : BitVec 8
  decay : Fx
  damp : Fx
  tone : Fx
  hit : Fx
  rel : Fx
  inharm : Fx
  cut : Fx
  radius : V4
  velDecay : Fx
  velHit : Fx
  velInharm : Fx
  srate : Fx
  silence : U32
  active : Bool
  parts : Bank
  wg : Waveguide
  post : BiquadFilter V4
deriving DecidableEq, Repr

/-- Resonator reset values (R31). -/
def Resonator.reset : Resonator :=
  { on := false, model := 0, npartials := 0, decay := 0, damp := 0, tone := 0, hit := 0, rel := 0,
    inharm := 0, cut := 0, radius := .zero, velDecay := 0, velHit := 0, velInharm := 0, srate := 0,
    silence := 0, active := false, parts := Vector.replicate Config.npart .reset, wg := .reset,
    post := .resetWith .zero }

/-- Voice registers and the owned units (R32). -/
structure Voice where
  note : BitVec 7
  freq : Fx
  vel : Fx
  isPressed : Bool
  isRelease : Bool
  couple : Bool
  split : Fx
  pitchA : Fx
  pitchB : Fx
  frames : U32
  mallet : Mallet
  noise : Noise
  resA : Resonator
  resB : Resonator
deriving DecidableEq, Repr

/-- Voice reset values: the pitch factors are 1 and `frames` is the sentinel `FRAMES_MAX` (R32). -/
def Voice.reset : Voice :=
  { note := 0, freq := 0, vel := 0, isPressed := false, isRelease := false, couple := false,
    split := 0, pitchA := 0x10000000000000000#128, pitchB := 0x10000000000000000#128,
    frames := 0xFFFFFFFF#32, mallet := .reset, noise := .reset, resA := .reset, resB := .reset }

/-- The seven global registers (R24). -/
structure Globals where
  srate : Fx
  malletFreq : Fx
  malletMix : Fx
  malletRes : Fx
  noiseMix : Fx
  noiseRes : Fx
  gain : Fx
deriving DecidableEq, Repr

/-- Global reset values: `srate` = 48000, `gain` = 1, the rest 0 (R24). -/
def Globals.reset : Globals :=
  { srate := 0xBB800000000000000000#128, malletFreq := 0, malletMix := 0, malletRes := 0,
    noiseMix := 0, noiseRes := 0, gain := 0x10000000000000000#128 }

/-! ### The whole machine -/

/-- The architectural state of R20 (`globals`, `voices`, `models`), the OPEN data parameters, and
the port streams. -/
structure State where
  /-- `G.*` (R24) -/
  globals : Globals
  /-- `V[0]` .. `V[NV-1]`; `NV` is the length (R32, R33, log entry 7) -/
  voices : List Voice
  /-- the model memory (R35); the word of side `A`/`B`, model `m`, entry `e` is at address
  `64 m + e`, plus 4096 for side `B` -/
  models : Memory
  /-- the OPEN data parameters, never written (R49, log entry 7) -/
  params : Params
  /-- MODEL's own: words the host has put on the command port, oldest first (R69, log entry 1) -/
  cmdIn : List Word
  /-- MODEL's own: words the host has put on `RNGIN`, oldest first (R47, R70, log entry 1) -/
  rngIn : List Word
  /-- MODEL's own: every word emitted on the response port, oldest first (R69, R341, log entry 1) -/
  respOut : List Word
deriving DecidableEq, Repr

/-- `NV`: the number of voices (R6). -/
def State.nv (s : State) : Nat := s.voices.length

/-- The state after the reset event, with the default parameters and nothing on the ports (R320,
R321). -/
def State.reset : State :=
  { globals := .reset, voices := List.replicate Config.defaultNv .reset, models := [],
    params := Config.defaultParams, cmdIn := [], rngIn := [], respOut := [] }

/-- Why the engine has no step. Neither is an error of the hardware: the spec's errors are
responses (spec/60_exceptions.md R295), and these two are the waits of spec/20_memory.md R69, in
which "the engine has no step, and it is the host that must move". -/
inductive Fault where
  /-- Raised by `step` when the words of the next command have not all arrived on the command port
  (R69). Safe: the model stops where the hardware waits. -/
  | commandWait
  /-- Raised by the meanings of `NSE.PROC` and `RENDER` when `RNGIN` holds fewer words than the
  command draws (R69, R70; spec/93_implementation_defined.md I12). Safe: the model stops where the
  hardware waits, and no sample is invented. -/
  | rngWait
deriving DecidableEq, Repr

/-- Why a command has no meaning. -/
inductive Refusal where
  /-- For a command whose arm of `exec` has no meaning yet. No arm raises it. Safe. -/
  | notModelled (mnemonic : String)
deriving DecidableEq, Repr

/-- The outcome of a command or a step. -/
abbrev Result := Host.Outcome State Fault Refusal

end Sys2Proof.Machine
end

