-- ==== Sys2Proof/Machine/Arith.lean ====
section
/-! DEFINITION. The fixed-point arithmetic of spec/40_arith.md on `FX` words, the constants of
spec/00_scope.md R7 and R12, the lane-wise operations on `V4`, and the record `NUM` as the machine
uses it. Every primitive computes exactly in `Int`, rounds once and saturates once (R100). -/

namespace Sys2Proof.Machine

/-! ### Saturation and conversion -/

/-- `FX_MAX` = 2^127 - 1 (R12). -/
def fxMax127 : Fx := 0x7FFFFFFFFFFFFFFFFFFFFFFFFFFFFFFF#128

/-- `FX_MIN` = -2^127 (R12). -/
def fxMin127 : Fx := 0x80000000000000000000000000000000#128

/-- `fx_sat` (R101). -/
def fxSat (i : Int) : Fx :=
  if 0x7FFFFFFFFFFFFFFFFFFFFFFFFFFFFFFF < i then fxMax127
  else if i < -0x80000000000000000000000000000000 then fxMin127
  else BitVec.ofInt 128 i

/-- `FX(n)` (R12, R107). -/
def fxOfInt (n : Int) : Fx := fxSat (n * 0x10000000000000000)

/-- `clamp` on integers (spec/10_state.md R36). -/
def clampInt (i lo hi : Int) : Int := if i < lo then lo else if hi < i then hi else i

/-- `fx_floor_u32` (R107). -/
def fxFloorU32 (a : Fx) : U32 :=
  BitVec.ofInt 32 (clampInt (a.toInt / 0x10000000000000000) 0 0xFFFFFFFF)

/-! ### Constants -/

/-- `FX_ONE` (R12). -/
def fxOne : Fx := 0x10000000000000000#128
/-- `FX_PI` (R12). -/
def fxPi : Fx := 0x3243F6A8885A308D3#128
/-- `FX_TWO_PI` (R12). -/
def fxTwoPi : Fx := 0x6487ED5110B4611A6#128
/-- `C_0_49` (R12). -/
def c049 : Fx := 0x7D70A3D70A3D70A4#128
/-- `C_0_707` (R12); also `POST_Q` (R7). -/
def c0707 : Fx := 0xB4FDF3B645A1CAC1#128
/-- `C_0_1` (R12). -/
def c01 : Fx := 0x199999999999999A#128
/-- `C_0_001` (R12). -/
def c0001 : Fx := 0x004189374BC6A7F0#128
/-- `C_3_001` (R12). -/
def c3001 : Fx := 0x3004189374BC6A7F0#128
/-- `C_0_4` (R12). -/
def c04 : Fx := 0x6666666666666666#128
/-- `C_0_5` (R12). -/
def c05 : Fx := 0x8000000000000000#128
/-- `C_0_0001` (R12). -/
def c00001 : Fx := 0x00068DB8BAC710CB#128
/-- `C_RESRANGE` = `NOISE_RES_RANGE` (R7, R12). -/
def cResRange : Fx := 0x34B020C49BA5E353F#128
/-- `C_SIL` = `SILENCE_THRESH` (R7, R12). -/
def cSil : Fx := 0x0000A7C5AC471B48#128
/-- `C_LN20` (R12). -/
def cLn20 : Fx := 0x2FEE84F6E7C722A07#128
/-- `C_LN100` (R12). -/
def cLn100 : Fx := 0x49AEC6EED554560B7#128
/-- `C_LN1000` = `NOISE_LOG_RANGE` (R7, R12). -/
def cLn1000 : Fx := 0x6E862A663FFE81113#128
/-- `C_LN10000` (R12). -/
def cLn10000 : Fx := 0x935D8DDDAAA8AC16F#128
/-- `C_LN20000` (R12). -/
def cLn20000 : Fx := 0x9E74AF5D27C5A3B1A#128
/-- `MALLET_SEED` = 1.0 (R7). -/
def malletSeed : Fx := fxOne
/-- `MODEL_WG_OPEN` (R7). -/
abbrev modelWgOpen : Nat := 7
/-- `MODEL_WG_CLOSED` (R7). -/
abbrev modelWgClosed : Nat := 8

/-! ### Primitives -/

/-- `fx_add` (R102). -/
def fxAdd (a b : Fx) : Fx := fxSat (a.toInt + b.toInt)

/-- `fx_sub` (R102). -/
def fxSub (a b : Fx) : Fx := fxSat (a.toInt - b.toInt)

/-- `fx_neg` (R102). -/
def fxNeg (a : Fx) : Fx := fxSat (-a.toInt)

/-- `fx_abs` (R102). -/
def fxAbs (a : Fx) : Fx := fxSat (if a.toInt < 0 then -a.toInt else a.toInt)

/-- `rnd_shift(p, 64)`: division by 2^64 to the nearest integer, a tie toward plus infinity
(R103). -/
def rndShift64 (p : Int) : Int := (p + 0x8000000000000000) / 0x10000000000000000

/-- `fx_mul` (R103). -/
def fxMul (a b : Fx) : Fx := fxSat (rndShift64 (a.toInt * b.toInt))

/-- `fx_div` (R104): truncation toward zero; division by zero gives the limit of the dividend's
sign. -/
def fxDiv (a b : Fx) : Fx :=
  if b.toInt = 0 then
    if 0 < a.toInt then fxMax127 else if a.toInt < 0 then fxMin127 else 0#128
  else fxSat (Int.tdiv (a.toInt * 0x10000000000000000) b.toInt)

/-- `fx_dot` (R105): the sum of the integer products, one rounding, one saturation. A pair
`(-c, v)` of the spec is `(-c.toInt, v.toInt)` here, exact. -/
def fxDot (pairs : List (Int × Int)) : Fx :=
  fxSat (rndShift64 ((pairs.map fun p => p.1 * p.2).sum))

/-- `a < b` on `FX` (R106). -/
abbrev fxLt (a b : Fx) : Prop := a.toInt < b.toInt

/-- `a <= b` on `FX` (R106). -/
abbrev fxLe (a b : Fx) : Prop := a.toInt ≤ b.toInt

/-- `fx_min` (R106). -/
def fxMin (a b : Fx) : Fx := if fxLt a b then a else b

/-- `fx_max` (R106). -/
def fxMax (a b : Fx) : Fx := if fxLt b a then a else b

/-- `fx_cube` (R107): two roundings, two saturations. -/
def fxCube (t : Fx) : Fx := fxMul (fxMul t t) t

/-! ### Vectors -/

/-- `v4_splat` (R107). -/
def V4.splat (a : Fx) : V4 := { l0 := a, l1 := a, l2 := a, l3 := a }

/-- A lane-wise operation of one vector (R114). -/
def V4.map (f : Fx → Fx) (p : V4) : V4 :=
  { l0 := f p.l0, l1 := f p.l1, l2 := f p.l2, l3 := f p.l3 }

/-- A lane-wise operation of two vectors (R114). -/
def V4.map2 (f : Fx → Fx → Fx) (p q : V4) : V4 :=
  { l0 := f p.l0 q.l0, l1 := f p.l1 q.l1, l2 := f p.l2 q.l2, l3 := f p.l3 q.l3 }

/-- A lane-wise operation of three vectors (R114). -/
def V4.map3 (f : Fx → Fx → Fx → Fx) (p q r : V4) : V4 :=
  { l0 := f p.l0 q.l0 r.l0, l1 := f p.l1 q.l1 r.l1,
    l2 := f p.l2 q.l2 r.l2, l3 := f p.l3 q.l3 r.l3 }

/-- A lane-wise operation of five vectors (R114). -/
def V4.map5 (f : Fx → Fx → Fx → Fx → Fx → Fx) (p q r s t : V4) : V4 :=
  { l0 := f p.l0 q.l0 r.l0 s.l0 t.l0, l1 := f p.l1 q.l1 r.l1 s.l1 t.l1,
    l2 := f p.l2 q.l2 r.l2 s.l2 t.l2, l3 := f p.l3 q.l3 r.l3 s.l3 t.l3 }

/-- `v4_add` (R107). -/
def V4.add (p q : V4) : V4 := V4.map2 fxAdd p q

/-- The words of a vector, lane 0 first (spec/20_memory.md R61). -/
def V4.words (p : V4) : List Word := [p.l0, p.l1, p.l2, p.l3]

/-- Lane `l` of a vector, `l` = 0 .. 3 (R9). -/
def V4.lane (p : V4) : Nat → Fx
  | 0 => p.l0
  | 1 => p.l1
  | 2 => p.l2
  | _ => p.l3

/-- A vector with lane `l` replaced, `l` = 0 .. 3. -/
def V4.setLane (p : V4) (l : Nat) (x : Fx) : V4 :=
  match l with
  | 0 => { p with l0 := x }
  | 1 => { p with l1 := x }
  | 2 => { p with l2 := x }
  | _ => { p with l3 := x }

/-! ### `NUM`

The six functions the commands call. Each is an open function of `Config` but for the values the
spec requires of every `NUM`: spec/92_eei_decisions.md D3 requires five fixed values, which the
corner cases of spec/42_filter.md R153 and R155 and of spec/44_partial.md R187 use and
spec/40_arith.md R109 does not list (log entry 22); spec/44_partial.md R191 needs two more, which
neither lists (log entry 23); R109 and D3 require the exact powers of two. -/

/-- `NUM.exp` (R108), with `exp(0) = 1` (D3). That D3 is followed is the model's choice, log
entry 22. -/
@[irreducible] def numExp (x : Fx) : Fx := if x = 0#128 then fxOne else Config.numExpOpen x

/-- `NUM.ln` (R108), with `ln(1) = 0` (D3). The model's choice, log entry 22. -/
@[irreducible] def numLn (x : Fx) : Fx := if x = fxOne then 0#128 else Config.numLnOpen x

/-- `NUM.sin` (R108), with `sin(0) = 0` (D3). The model's choice, log entry 22. -/
@[irreducible] def numSin (x : Fx) : Fx := if x = 0#128 then 0#128 else Config.numSinOpen x

/-- `NUM.cos` (R108), with `cos(0) = 1` (D3). The model's choice, log entry 22. -/
@[irreducible] def numCos (x : Fx) : Fx := if x = 0#128 then fxOne else Config.numCosOpen x

/-- `NUM.sqrt` (R108), with `sqrt(0) = 0` (D3), the model's choice, log entry 22; and with
`sqrt(1) = 1`, which makes the warping factor of spec/44_partial.md R191 exactly `FX_ONE`, DEDUCED,
log entry 23. -/
@[irreducible] def numSqrt (x : Fx) : Fx :=
  if x = 0#128 then 0#128 else if x = fxOne then fxOne else Config.numSqrtOpen x

/-- For a word that is `FX(k)` with `-64 <= k <= 62`: the exact word of `2^k`, which property P3
of R109 requires of `NUM.pow(FX(2), FX(k))`; `none` for any other word. -/
def exactPow2 (y : Fx) : Option Fx :=
  let k := y.toInt / 0x10000000000000000
  if y.toInt % 0x10000000000000000 = 0 ∧ -64 ≤ k ∧ k ≤ 62 then
    some (BitVec.ofNat 128 (2 ^ (64 + k).toNat))
  else none

/-- `NUM.pow` (R108): exact where P3 of R109 requires it; `pow(1, 0) = 1`, which the computed side of
the boundary of spec/44_partial.md R191 needs, DEDUCED, log entry 23; otherwise the open function. -/
def numPow (x y : Fx) : Fx :=
  if x = fxOfInt 2 then (exactPow2 y).getD (Config.numPowOpen x y)
  else if x = fxOne ∧ y = 0#128 then fxOne
  else Config.numPowOpen x y

end Sys2Proof.Machine
end

