-- ==== Sys2Proof/Machine/Operands.lean ====
section
/-! DEFINITION. How operand words are read (spec/30_encoding.md R83), how a word is legalised when it
is stored into a register that is not `FX` (spec/10_state.md R36), how unit selectors are read
(R82), and the target checks 4 to 6 of spec/60_exceptions.md R297. -/

namespace Sys2Proof.Machine

/-! ### Operand types -/

/-- `sint(w)`: the word as a two's-complement integer (R36). -/
def sint (w : Word) : Int := w.toInt

/-- An `INT lo..hi` operand: clamped, never an error (R83). -/
def opInt (lo hi : Int) (w : Word) : Int := clampInt (sint w) lo hi

/-- A `BOOL` operand, and the legalisation of a `BOOL` register (R83, R36). -/
def opBool (w : Word) : Bool := w != 0#128

/-- An `FMODE` operand, and the legalisation of an `FMODE` register: an invalid word is `LP`
(R83, R36). -/
def opFMode (w : Word) : FMode :=
  if sint w = 1 then .bp else if sint w = 2 then .hp else .lp

/-- The legalisation of the `ENVSTATE` register (R36). -/
def opEnvState (w : Word) : EnvState :=
  if sint w = 1 then .attack else if sint w = 2 then .decay
  else if sint w = 3 then .sustain else if sint w = 4 then .release else .off

/-- A `FIELD` operand: the field id, `none` if negative (R83). -/
def opField (w : Word) : Option Nat := if sint w < 0 then none else some (sint w).toNat

/-- The legalisation of `U7` `note` (R36). -/
def legalNote (w : Word) : BitVec 7 := BitVec.ofInt 7 (clampInt (sint w) 0 127)

/-- The legalisation of `U8` `model` (R36). -/
def legalModel (w : Word) : BitVec 8 := BitVec.ofInt 8 (clampInt (sint w) 0 63)

/-- The legalisation of `U8` `npartials` (R36). -/
def legalNPartials (w : Word) : BitVec 8 := BitVec.ofInt 8 (clampInt (sint w) 0 64)

/-- The legalisation of the counters `elapsed`, `silence`, `frames` (R36). -/
def legalCounter (w : Word) : U32 := BitVec.ofInt 32 (clampInt (sint w) 0 Config.framesMax)

/-- The legalisation of `read_ptr` and `write_ptr` (R36). -/
def legalPtr (wgLen : Nat) (w : Word) : U32 :=
  BitVec.ofInt 32 (clampInt (sint w) 0 ((wgLen : Int) - 1))

/-- The legalisation of `tlen` (R36). -/
def legalTlen (wgLen : Nat) (w : Word) : U32 :=
  BitVec.ofInt 32 (clampInt (sint w) 1 (wgLen : Int))

/-! ### Registers read as words (R21, R83) -/

/-- A narrow register as a word: its plain integer value. -/
def wordOfNat (n : Nat) : Word := BitVec.ofNat 128 n

/-- A `BOOL` register as a word. -/
def wordOfBool (b : Bool) : Word := if b then 1#128 else 0#128

/-- The codes of `ENVSTATE` (spec/00_scope.md R9). -/
def EnvState.code : EnvState → Nat
  | .off => 0
  | .attack => 1
  | .decay => 2
  | .sustain => 3
  | .release => 4

/-- The codes of `FMODE` (R9). -/
def FMode.code : FMode → Nat
  | .lp => 0
  | .bp => 1
  | .hp => 2

/-- The status codes of R295. -/
def statusCode : Status → Nat
  | .ok => 0
  | .opcode => 1
  | .reserved => 2
  | .voice => 3
  | .unit => 4
  | .index => 5
  | .field => 6

/-- The status word of a response (R81). -/
def statusWord (e : Status) : Word := wordOfNat (statusCode e)

/-! ### Unit selectors (R82) -/

/-- The unit that a `U` field selects; `none` for a reserved value (R82). -/
def unitOfCode (u : BitVec 8) : Option UnitSel :=
  match u.toNat with
  | 0x00 => some .voice
  | 0x01 => some .mallet
  | 0x02 => some .malletFlt
  | 0x03 => some .noise
  | 0x04 => some .noiseFlt
  | 0x05 => some .noiseEnv
  | 0x10 => some (.res .a)
  | 0x11 => some (.post .a)
  | 0x12 => some (.wg .a)
  | 0x13 => some (.part .a)
  | 0x20 => some (.res .b)
  | 0x21 => some (.post .b)
  | 0x22 => some (.wg .b)
  | 0x23 => some (.part .b)
  | _ => none

/-- The side that the `U` field of `MDL.WR` and `MDL.RD` selects (R82). -/
def sideOfCode (u : BitVec 8) : Option Side :=
  match u.toNat with
  | 0x10 => some .a
  | 0x20 => some .b
  | _ => none

/-- The `U` values the VOI rows admit (R84). -/
def selVoice (u : BitVec 8) : Option Unit :=
  match unitOfCode u with
  | some .voice => some ()
  | _ => none

/-- The `U` values the MLT rows admit (R84). -/
def selMallet (u : BitVec 8) : Option Unit :=
  match unitOfCode u with
  | some .mallet => some ()
  | _ => none

/-- The `U` values the NSE rows admit (R84). -/
def selNoise (u : BitVec 8) : Option Unit :=
  match unitOfCode u with
  | some .noise => some ()
  | _ => none

/-- The `U` values the ENV rows admit (R84). -/
def selEnv (u : BitVec 8) : Option Unit :=
  match unitOfCode u with
  | some .noiseEnv => some ()
  | _ => none

/-- The `U` values the RES rows admit, as the side they select (R84). -/
def selRes (u : BitVec 8) : Option Side :=
  match unitOfCode u with
  | some (.res sd) => some sd
  | _ => none

/-- The `U` values the WGD rows admit, as the side they select (R84). -/
def selWg (u : BitVec 8) : Option Side :=
  match unitOfCode u with
  | some (.wg sd) => some sd
  | _ => none

/-- The `U` values the PRT rows admit, as the side they select (R84). -/
def selPart (u : BitVec 8) : Option Side :=
  match unitOfCode u with
  | some (.part sd) => some sd
  | _ => none

/-- Which of the four Filters of a voice (R150): the two of one lane or a post Filter. -/
inductive FilterSel where
  | mallet
  | noise
  | post (sd : Side)
deriving DecidableEq, Repr

/-- The `U` values the FLT rows admit (R84). -/
def selFilter (u : BitVec 8) : Option FilterSel :=
  match unitOfCode u with
  | some .malletFlt => some .mallet
  | some .noiseFlt => some .noise
  | some (.post sd) => some (.post sd)
  | _ => none

/-! ### The target checks -/

/-- Steps 4 to 6 of R297 for a row that addresses a unit of a voice, in their order: `V`, then `U`
by the row's selectors `sel`, then `K`. A `K` other than 0 on a unit that is no Partial is `E_RESERVED`
after `E_VOICE` and `E_UNIT`, as R297 has it, and not before them, as the list of
spec/30_encoding.md R86 has it (DEDUCED, log entry 25). -/
def checkTarget {α : Type} (sel : BitVec 8 → Option α) (nv : Nat) (t : Target) :
    Except Status α :=
  if nv ≤ t.v.toNat then .error .voice
  else match sel t.u with
    | none => .error .unit
    | some a =>
      if t.u = 0x13#8 ∨ t.u = 0x23#8 then
        if 63 < t.k.toNat then .error .index else .ok a
      else if t.k ≠ 0#8 then .error .reserved
      else .ok a

end Sys2Proof.Machine
end

