-- ==== Sys2Proof/Machine/Flags.lean ====
section
/-! DEFINITION. The computed `BOOL` registers and the conditions that the rules decide on
(spec/10_state.md R23). RXE has no condition codes. -/

namespace Sys2Proof.Machine

/-- `filter_active` (spec/43_mallet_noise.md R174): false exactly when a low-pass is at or above
20000 Hz or a high-pass at or below 20 Hz. -/
def filterActiveFlag (mode : FMode) (f : Fx) : Bool :=
  !(decide (mode = .lp ∧ fxLe (fxOfInt 20000) f) || decide (mode = .hp ∧ fxLe f (fxOfInt 20)))

/-- `res_is_bank` (spec/46_resonator.md R215): the model index selects the Partial bank. -/
def resIsBank (u : Resonator) : Bool := decide (u.model.toNat < modelWgOpen)

/-- `wg.is_closed` as `RES.SETP` derives it from the model index (R217). -/
def isClosedFlag (model : BitVec 8) : Bool := decide (modelWgClosed ≤ model.toNat)

/-- Both Resonators on and coupling requested: step 3 of spec/47_voice.md R240, and `serial` of
spec/48_pool_render.md R261. -/
def coupledFlag (v : Voice) : Bool := v.resA.on && v.resB.on && v.couple

/-- A lane is loud: `|out| + |in|` exceeds the silence threshold (R220). -/
def loudLane (out inp : Fx) : Bool := decide (fxLt cSil (fxAdd (fxAbs out) (fxAbs inp)))

/-- Whether each lane is loud, lane 0 first (R220). -/
def loudLanes (out inp : V4) : List Bool :=
  [loudLane out.l0 inp.l0, loudLane out.l1 inp.l1, loudLane out.l2 inp.l2, loudLane out.l3 inp.l3]

/-- A 32-bit counter advanced by `n`, saturating at `FRAMES_MAX` (R220, R262). -/
def addSat32 (c : U32) (n : Nat) : U32 := BitVec.ofNat 32 (min Config.framesMax (c.toNat + n))

/-- The silence counter after one step (R220): under `loud_counts` one up for each loud lane,
under `quiet_counts` back to 0 on a loud step and one up on a quiet one. -/
def silenceNext (mode : SilenceMode) (silence : U32) (out inp : V4) : U32 :=
  match mode with
  | .loudCounts => (loudLanes out inp).foldl (fun c loud => if loud then addSat32 c 1 else c) silence
  | .quietCounts => if (loudLanes out inp).any id then 0#32 else addSat32 silence 1

/-- The deactivation test of R220: `FX(silence) >= srate`. -/
def silenceReached (silence : U32) (srate : Fx) : Bool :=
  decide (fxLe srate (fxOfInt silence.toNat))

end Sys2Proof.Machine
end

