-- ==== Sys2Proof/Machine/Ops.lean ====
section
/-! DEFINITION. The named operations over the memories, the registers and the ports
(spec/20_memory.md), and the one way a command ends in an error (spec/60_exceptions.md R296). -/

namespace Sys2Proof.Machine

/-! ### Word memories -/

/-- The word at address `a` (R64, R65): the one listed, else the unlisted value. -/
def Memory.read (m : Memory) (a : Nat) : Word :=
  match m with
  | [] => Memory.unlisted
  | c :: cs => if c.1 = a then c.2 else Memory.read cs a

/-- Stores `w` at address `a` and changes no other word (R64, R65). The list stays in its canonical
form: an entry that would hold the unlisted value is taken out. -/
def Memory.write (m : Memory) (a : Nat) (w : Word) : Memory :=
  match m with
  | [] => if w = Memory.unlisted then [] else [(a, w)]
  | c :: cs =>
    if c.1 < a then c :: Memory.write cs a w
    else if c.1 = a then (if w = Memory.unlisted then cs else (a, w) :: cs)
    else if w = Memory.unlisted then c :: cs
    else (a, w) :: c :: cs

/-- `WgRead(w, a)` (R64): entry `a` of a delay buffer, a whole `V4`. -/
def wgRead (buf : Memory) (a : Nat) : V4 :=
  { l0 := buf.read (4 * a), l1 := buf.read (4 * a + 1),
    l2 := buf.read (4 * a + 2), l3 := buf.read (4 * a + 3) }

/-- `WgWrite(w, a, v)` (R64). -/
def wgWrite (buf : Memory) (a : Nat) (v : V4) : Memory :=
  (((buf.write (4 * a) v.l0).write (4 * a + 1) v.l1).write (4 * a + 2) v.l2).write (4 * a + 3) v.l3

/-- The address of entry `e` of model `m` of a side in the model memory (spec/10_state.md R35). -/
def mdlAddr (sd : Side) (m e : Nat) : Nat :=
  (match sd with
    | .a => 0
    | .b => 4096) + 64 * m + e

/-- `MdlRead(side, m, e)` (R65). -/
def mdlRead (models : Memory) (sd : Side) (m e : Nat) : Fx := models.read (mdlAddr sd m e)

/-- `MdlWrite(side, m, e, x)` (R65). -/
def mdlWrite (models : Memory) (sd : Side) (m e : Nat) (x : Fx) : Memory :=
  models.write (mdlAddr sd m e) x

/-- `MdlTable(side, m)` (R65): the 64 entries of one model. -/
def mdlTable (models : Memory) (sd : Side) (m : Nat) : List Fx :=
  (List.range Config.mdlLen).map fun e => mdlRead models sd m e

/-! ### The RNGIN port -/

/-- `RngDraw()` (R70): the oldest word not yet taken, and the stream without it; `none` when the
stream is empty, and the command waits (R69). -/
def rngDraw : List Word → Option (Fx × List Word)
  | [] => none
  | w :: ws => some (w, ws)

/-! ### Responses -/

/-- Appends a response, the status word and the result words, to the response stream (R69, R81). -/
def respond (e : Status) (ws : List Word) (s : State) : State :=
  { s with respOut := s.respOut ++ statusWord e :: ws }

/-- The command ends in an error (R296): no state is written, no `RNGIN` word is drawn, no result
word is emitted, and the response is the status word alone. There is nothing saved and nothing to
return to (R301, R302). -/
def raiseError (e : Status) (s : State) : Result := .next (respond e [] s)

/-- The command was executed and answers `OK` with its result words (R81). -/
def complete (ws : List Word) (s : State) : Result := .next (respond .ok ws s)

/-! ### Voices -/

/-- Voice `i` of a list of voices. -/
def voiceAt (vs : List Voice) (i : Nat) : Voice := vs.getD i Voice.reset

/-- The state with voice `i` replaced. -/
def setVoice (i : Nat) (v : Voice) (s : State) : State := { s with voices := s.voices.set i v }

/-- Runs a command that addresses a unit of a voice: the target checks of R297, then `f` on the
selected unit's voice, which gives the voice after the command and the result words. -/
def atVoice {α : Type} (sel : BitVec 8 → Option α) (t : Target) (s : State)
    (f : α → Voice → Voice × List Word) : Result :=
  match checkTarget sel s.nv t with
  | .error e => raiseError e s
  | .ok a =>
    complete (f a (voiceAt s.voices t.v.toNat)).2
      (setVoice t.v.toNat (f a (voiceAt s.voices t.v.toNat)).1 s)

/-! ### The units of a voice -/

/-- The Resonator of a side (R31). -/
def Voice.res (v : Voice) : Side → Resonator
  | .a => v.resA
  | .b => v.resB

/-- The voice with the Resonator of a side replaced. -/
def Voice.setRes (v : Voice) (sd : Side) (r : Resonator) : Voice :=
  match sd with
  | .a => { v with resA := r }
  | .b => { v with resB := r }

/-- The voice with its Mallet replaced. -/
def Voice.setMallet (v : Voice) (m : Mallet) : Voice := { v with mallet := m }

/-- The voice with its Noise replaced. -/
def Voice.setNoise (v : Voice) (n : Noise) : Voice := { v with noise := n }

/-- The voice with the Envelope of its Noise replaced. -/
def Voice.setEnv (v : Voice) (e : Envelope) : Voice :=
  { v with noise := { v.noise with env := e } }

/-- The voice with the Filter of its Mallet replaced. -/
def Voice.setMalletFlt (v : Voice) (f : BiquadFilter Fx) : Voice :=
  { v with mallet := { v.mallet with flt := f } }

/-- The voice with the Filter of its Noise replaced. -/
def Voice.setNoiseFlt (v : Voice) (f : BiquadFilter Fx) : Voice :=
  { v with noise := { v.noise with flt := f } }

/-- The voice with the Waveguide of a side replaced. -/
def Voice.setWg (v : Voice) (sd : Side) (w : Waveguide) : Voice :=
  v.setRes sd { v.res sd with wg := w }

/-- The voice with the post Filter of a side replaced. -/
def Voice.setPost (v : Voice) (sd : Side) (f : BiquadFilter V4) : Voice :=
  v.setRes sd { v.res sd with post := f }

/-- Partial `i` of a bank, `i` = 0 .. 63 (R29). -/
def bankGet (b : Bank) (i : Nat) : Partial := b.toList.getD i Partial.reset

/-- A bank with Partial `i` replaced. -/
def bankSet (b : Bank) (i : Nat) (p : Partial) : Bank := b.setIfInBounds i p

/-- The voice with Partial `i` of the bank of a side replaced. -/
def Voice.setPart (v : Voice) (sd : Side) (i : Nat) (p : Partial) : Voice :=
  v.setRes sd { v.res sd with parts := bankSet (v.res sd).parts i p }

/-- The bank made from the Partials of another, each Partial `i` of the first `n` replaced by
`f i` of it (the loops of R217, R218 and R221). -/
def bankMapBelow (n : Nat) (f : Nat → Partial → Partial) (b : Bank) : Bank :=
  ⟨⟨b.toList.mapIdx fun i p => if i < n then f i p else p⟩, by simp⟩

end Sys2Proof.Machine
end

