-- ==== Sys2Proof/Machine/EnvelopeUnit.lean ====
section
/-! DEFINITION. The Envelope: the procedures of spec/41_envelope.md and the meanings of the seven ENV
commands. -/

namespace Sys2Proof.Machine

/-! ### Procedures -/

/-- `env_norm_tension` (R131). -/
def envNormTension (t : Fx) : Fx :=
  let t := fxMax (fxOfInt (-1)) (fxMin fxOne t)
  let tp := fxAdd t fxOne
  if tp = fxOne then fxOfInt 100
  else if fxLt fxOne tp then fxSub c3001 tp
  else fxAdd c0001 tp

/-- `env_calc_coefs` (R132): the pair `(b, c)` of the recurrence `b + c y`. The ranges R132 gives for
`c`, and the sign R138 gives for `rb`, are not required of the open `NUM`, and the quotient at
`tc == 0` is 1 for `t` other than 0. At the linear sentinel 100 the pseudocode cubes `tension - 1`,
so `t` is `99^3` = 970299, where the prose says `10^6`. The pseudocode is followed at each (DEDUCED,
log entry 24). -/
def envCalcCoefs (tb1 tb2 tc rate tension mult : Fx) : Fx × Fx :=
  if fxLt fxOne tension then
    let t := fxCube (fxSub tension fxOne)
    let c := numExp (fxDiv (numLn (fxDiv (fxAdd tc t) t)) rate)
    (fxMul (fxSub tb1 (fxMul mult t)) (fxSub fxOne c), c)
  else
    let t := fxCube tension
    let c := numExp (fxNeg (fxDiv (numLn (fxDiv (fxAdd tc t) t)) rate))
    (fxMul (fxAdd tb2 (fxMul mult t)) (fxSub fxOne c), c)

/-- A time in milliseconds, at least 1 ms, in samples (R134). -/
def envSamples (srate ms : Fx) : Fx := fxDiv (fxMul (fxMax ms fxOne) srate) (fxOfInt 1000)

/-- `env_init` (R134). The corner case that an Envelope with `srate <= 0` converges at once is so for
`srate` 0; with a negative `srate` the times are negative, no division saturates and Attack need not
end: the pseudocode is followed (DEDUCED, log entry 24). -/
def envInitProc (u : Envelope)
    (srate attackMs decayMs sustainDb releaseMs tAtt tDec tRel : Fx) : Envelope :=
  { u with
    att := envSamples srate attackMs
    dec := envSamples srate decayMs
    rel := envSamples srate releaseMs
    sus := numPow (fxOfInt 10) (fxDiv (fxMin sustainDb 0#128) (fxOfInt 20))
    ta := envNormTension tAtt
    td := envNormTension tDec
    tr := envNormTension tRel }

/-- The attack pair `(ab, ac)` of `env_attack` (R135). -/
def envAttackCoefs (u : Envelope) (scale : Fx) : Fx × Fx :=
  envCalcCoefs 0#128 scale scale u.att u.ta fxOne

/-- The decay pair `(db, dc)` of `env_attack` (R135). With `sus` 1 it holds `env`, which ends the
Decay at once as R135 and R139 say only if `env` is at most `scale` (DEDUCED, log entry 24). -/
def envDecayCoefs (u : Envelope) (scale : Fx) : Fx × Fx :=
  envCalcCoefs fxOne (fxMul u.sus scale) (fxMul (fxSub fxOne u.sus) scale) u.dec u.td
    (fxOfInt (-1))

/-- `env_attack` (R135): `env` is kept. -/
def envAttackProc (u : Envelope) (scale : Fx) : Envelope :=
  { u with
    scale := scale
    ab := (envAttackCoefs u scale).1
    ac := (envAttackCoefs u scale).2
    db := (envDecayCoefs u scale).1
    dc := (envDecayCoefs u scale).2
    state := .attack }

/-- The release pair `(rb, rc)` of `env_release` (R138). -/
def envReleaseCoefs (u : Envelope) : Fx × Fx :=
  let lvl := fxMul (fxMax u.env u.sus) u.scale
  envCalcCoefs lvl 0#128 lvl u.rel u.tr (fxOfInt (-1))

/-- `env_release` (R138): `env` is kept. -/
def envReleaseProc (u : Envelope) : Envelope :=
  { u with
    rb := (envReleaseCoefs u).1
    rc := (envReleaseCoefs u).2
    state := .release }

/-- `env_process` (R139): one sample. The end point of a segment is written back on the step that
ends it. The pseudocode is followed where the corner cases say more (DEDUCED, log entry 24): with
`sus` 1 the first Decay step ends the Decay only if the new `env` is at most `scale`, which an
`ENV.DEC` at a larger `env` shows; and with all-zero coefficients the new `env` is the end point, not
0, on a step that ends a segment whose end point is not 0. -/
def envProcess (u : Envelope) : Envelope :=
  match u.state with
  | .off => u
  | .attack =>
    let e := fxAdd u.ab (fxMul u.env u.ac)
    if fxLe u.scale e then { u with env := u.scale, state := .decay } else { u with env := e }
  | .decay =>
    let e := fxAdd u.db (fxMul u.env u.dc)
    let goal := fxMul u.sus u.scale
    if fxLe e goal then { u with env := goal, state := .sustain } else { u with env := e }
  | .sustain => u
  | .release =>
    let e := fxAdd u.rb (fxMul u.env u.rc)
    if fxLe e 0#128 then { u with env := 0#128, state := .off } else { u with env := e }

/-- `env_reset` (R140). -/
def envResetProc (u : Envelope) : Envelope := { u with state := .off, env := 0#128 }

/-! ### Commands -/

/-- Runs an ENV command: `f` gives the Envelope after it and the result words. -/
def atEnv (t : Target) (s : State) (f : Envelope → Envelope × List Word) : Result :=
  atVoice selEnv t s fun _ v => (v.setEnv (f v.noise.env).1, (f v.noise.env).2)

/-- `ENV.INIT` (R134). -/
def execEnvInit (t : Target)
    (srate attackMs decayMs sustainDb releaseMs tAtt tDec tRel : Word) (s : State) : Result :=
  atEnv t s fun u =>
    (envInitProc u srate attackMs decayMs sustainDb releaseMs tAtt tDec tRel, [])

/-- `ENV.ATK` (R135). -/
def execEnvAtk (t : Target) (scale : Word) (s : State) : Result :=
  atEnv t s fun u => (envAttackProc u scale, [])

/-- `ENV.DEC` (R136). -/
def execEnvDec (t : Target) (s : State) : Result :=
  atEnv t s fun u => ({ u with state := .decay }, [])

/-- `ENV.SUS` (R137). -/
def execEnvSus (t : Target) (s : State) : Result :=
  atEnv t s fun u => ({ u with state := .sustain }, [])

/-- `ENV.REL` (R138). -/
def execEnvRel (t : Target) (s : State) : Result :=
  atEnv t s fun u => (envReleaseProc u, [])

/-- `ENV.PROC` (R139): answers the state code and `env`, both after the step. -/
def execEnvProc (t : Target) (s : State) : Result :=
  atEnv t s fun u =>
    (envProcess u, [wordOfNat (envProcess u).state.code, (envProcess u).env])

/-- `ENV.RST` (R140). -/
def execEnvRst (t : Target) (s : State) : Result :=
  atEnv t s fun u => (envResetProc u, [])

end Sys2Proof.Machine
end

