-- ==== Sys2Proof/Machine/FilterUnit.lean ====
section
/-! DEFINITION. The Filter: the procedures of spec/42_filter.md and the meanings of the six FLT
commands. A procedure on coefficients serves both lane counts; a procedure on the history is
written once for one lane and once for four (R150). -/

namespace Sys2Proof.Machine

/-! ### Coefficients -/

/-- The pair `(a1, a2)` of `flt_common` (R151). The corner case `q == 0` of R153 is so for a positive
`sin(w0)`, and its `a1` of integer value -3 for a `cos(w0)` of at least 3/4 and below 1; the one for
`freq >= 0.49 srate` is so for a positive `srate`, and at `freq` = `0.49 srate` up to the rounding of
the quotient: the pseudocode is followed (DEDUCED, log entry 24). -/
def fltPoles (srate freq q : Fx) : Fx × Fx :=
  let w0 := fxMul fxTwoPi (fxMin (fxDiv freq srate) c049)
  let alpha := fxDiv (numSin w0) (fxMul (fxOfInt 2) q)
  let a0 := fxAdd fxOne alpha
  (fxDiv (fxMul (fxOfInt (-2)) (numCos w0)) a0, fxDiv (fxSub fxOne alpha) a0)

/-- `flt_lp` (R153): the history is kept. -/
def fltLpProc {α : Type} (u : BiquadFilter α) (srate freq q : Fx) : BiquadFilter α :=
  let a1 := (fltPoles srate freq q).1
  let a2 := (fltPoles srate freq q).2
  let b0 := fxDiv (fxAdd (fxAdd fxOne a1) a2) (fxOfInt 4)
  { u with a1 := a1, a2 := a2, b0 := b0, b1 := fxMul (fxOfInt 2) b0, b2 := b0 }

/-- `flt_bp` (R154): the history is kept. -/
def fltBpProc {α : Type} (u : BiquadFilter α) (srate freq q : Fx) : BiquadFilter α :=
  let a1 := (fltPoles srate freq q).1
  let a2 := (fltPoles srate freq q).2
  let b0 := fxDiv (fxMul (fxSub fxOne a2) q) (fxOfInt 2)
  { u with a1 := a1, a2 := a2, b0 := b0, b1 := 0#128, b2 := fxNeg b0 }

/-- `flt_hp` (R155): the history is kept. With `q == 0` its `b0` is one unit in the last place and
not the 0 of the low-pass, whose corner cases R155 refers to (DEDUCED, log entry 24). -/
def fltHpProc {α : Type} (u : BiquadFilter α) (srate freq q : Fx) : BiquadFilter α :=
  let a1 := (fltPoles srate freq q).1
  let a2 := (fltPoles srate freq q).2
  let b0 := fxDiv (fxAdd (fxSub fxOne a1) a2) (fxOfInt 4)
  { u with a1 := a1, a2 := a2, b0 := b0, b1 := fxMul (fxOfInt (-2)) b0, b2 := b0 }

/-! ### One sample -/

/-- The new output of direct form I on one lane: five products, one rounding (R156). `x0` is the
input, `x1`, `x2` the inputs one and two samples back, `y1`, `y2` the outputs likewise. -/
def fltTap {α : Type} (u : BiquadFilter α) (x0 x1 x2 y1 y2 : Fx) : Fx :=
  fxDot [(u.b0.toInt, x0.toInt), (u.b1.toInt, x1.toInt), (u.b2.toInt, x2.toInt),
    (-u.a1.toInt, y1.toInt), (-u.a2.toInt, y2.toInt)]

/-- `flt_df1` on a one-lane Filter (R156): the Filter after the sample; its output is `y0`. -/
def fltDf1One (u : BiquadFilter Fx) (x : Fx) : BiquadFilter Fx :=
  let y := fltTap u x u.x0 u.x1 u.y1 u.y2
  { u with x0 := x, x1 := u.x0, x2 := u.x1, y0 := y, y1 := y, y2 := u.y1 }

/-- `flt_df1` on a four-lane Filter (R156): the Filter after the sample; its output is `y0`. -/
def fltDf1Four (u : BiquadFilter V4) (x : V4) : BiquadFilter V4 :=
  let y := V4.map5 (fltTap u) x u.x0 u.x1 u.y1 u.y2
  { u with x0 := x, x1 := u.x0, x2 := u.x1, y0 := y, y1 := y, y2 := u.y1 }

/-! ### The history -/

/-- The DC gain `g` of `flt_clear` (R157). That it is within a few units of 0 or 1 is so where the
denominator is not itself a few units (DEDUCED, log entry 24). -/
def fltDcGain {α : Type} (u : BiquadFilter α) : Fx :=
  fxDiv (fxAdd (fxAdd u.b0 u.b1) u.b2) (fxAdd (fxAdd fxOne u.a1) u.a2)

/-- A Filter whose history holds the input `x` and the output `y` at every age. -/
def fltSeed {α : Type} (u : BiquadFilter α) (x y : α) : BiquadFilter α :=
  { u with x0 := x, x1 := x, x2 := x, y0 := y, y1 := y, y2 := y }

/-- `flt_clear` on a one-lane Filter (R157). -/
def fltClearOne (u : BiquadFilter Fx) (x : Fx) : BiquadFilter Fx :=
  fltSeed u x (fxMul x (fltDcGain u))

/-- `flt_clear` on a four-lane Filter (R157). -/
def fltClearFour (u : BiquadFilter V4) (x : V4) : BiquadFilter V4 :=
  fltSeed u x (x.map fun l => fxMul l (fltDcGain u))

/-- `flt_reset` on a one-lane Filter (R158). -/
def fltResetOne (u : BiquadFilter Fx) : BiquadFilter Fx := fltSeed u 0#128 0#128

/-- `flt_reset` on a four-lane Filter (R158). -/
def fltResetFour (u : BiquadFilter V4) : BiquadFilter V4 := fltSeed u .zero .zero

/-! ### Commands -/

/-- Runs an FLT command: `one` and `four` give the Filter after it and the result words for a
Filter of one lane and of four. -/
def atFilter (t : Target) (s : State) (one : BiquadFilter Fx → BiquadFilter Fx × List Word)
    (four : BiquadFilter V4 → BiquadFilter V4 × List Word) : Result :=
  atVoice selFilter t s fun sel v =>
    match sel with
    | .mallet => (v.setMalletFlt (one v.mallet.flt).1, (one v.mallet.flt).2)
    | .noise => (v.setNoiseFlt (one v.noise.flt).1, (one v.noise.flt).2)
    | .post sd => (v.setPost sd (four (v.res sd).post).1, (four (v.res sd).post).2)

/-- `FLT.LP` (R153). -/
def execFltLp (t : Target) (srate freq q : Word) (s : State) : Result :=
  atFilter t s (fun u => (fltLpProc u srate freq q, [])) (fun u => (fltLpProc u srate freq q, []))

/-- `FLT.BP` (R154). -/
def execFltBp (t : Target) (srate freq q : Word) (s : State) : Result :=
  atFilter t s (fun u => (fltBpProc u srate freq q, [])) (fun u => (fltBpProc u srate freq q, []))

/-- `FLT.HP` (R155). -/
def execFltHp (t : Target) (srate freq q : Word) (s : State) : Result :=
  atFilter t s (fun u => (fltHpProc u srate freq q, [])) (fun u => (fltHpProc u srate freq q, []))

/-- `FLT.DF1` (R156): on a one-lane Filter the input words of lanes 1 to 3 are ignored and their
result words are 0 (R150). -/
def execFltDf1 (t : Target) (in0 in1 in2 in3 : Word) (s : State) : Result :=
  atFilter t s
    (fun u => (fltDf1One u in0, [(fltDf1One u in0).y0, 0#128, 0#128, 0#128]))
    (fun u => (fltDf1Four u ⟨in0, in1, in2, in3⟩, (fltDf1Four u ⟨in0, in1, in2, in3⟩).y0.words))

/-- `FLT.CLR` (R157): on a one-lane Filter the words of lanes 1 to 3 are ignored (R150). -/
def execFltClr (t : Target) (in0 in1 in2 in3 : Word) (s : State) : Result :=
  atFilter t s (fun u => (fltClearOne u in0, [])) (fun u => (fltClearFour u ⟨in0, in1, in2, in3⟩, []))

/-- `FLT.RST` (R158). -/
def execFltRst (t : Target) (s : State) : Result :=
  atFilter t s (fun u => (fltResetOne u, [])) (fun u => (fltResetFour u, []))

end Sys2Proof.Machine
end

