-- ==== Sys2Proof/Machine/Exciters.lean ====
section
/-! DEFINITION. The exciters: the Mallet and Noise procedures of spec/43_mallet_noise.md and the
meanings of the MLT and NSE commands. -/

namespace Sys2Proof.Machine

/-! ### Mallet procedures -/

/-- `mlt_trigger` (R166). With `srate` = 0 the argument of `NUM.exp` is `fx_neg(FX_MAX)` as the
pseudocode has it (DEDUCED, log entry 11); that `env` is above 1 with a negative `srate` is not
required of the open `NUM.exp` (DEDUCED, log entry 24). -/
def mltTrigger (u : Mallet) (srate freq : Fx) : Mallet :=
  { impulse := malletSeed
    env := numExp (fxNeg (fxDiv fxOne (fxMul c01 srate)))
    elapsed := fxFloorU32 (fxDiv srate (fxOfInt 10))
    flt := fltResetOne (fltBpProc u.flt srate freq c0707) }

/-- `mlt_process` (R167): the Mallet after one sample, and the sample. -/
def mltProcess (u : Mallet) : Mallet × Fx :=
  if u.elapsed = 0#32 then (u, 0#128)
  else
    let f := fltDf1One u.flt u.impulse
    ({ u with flt := f, elapsed := u.elapsed - 1#32, impulse := fxMul u.impulse u.env },
      fxMul f.y0 (fxOfInt 2))

/-- `mlt_clear` (R168). -/
def mltClear (u : Mallet) : Mallet :=
  { u with elapsed := 0#32, impulse := 0#128, flt := fltResetOne u.flt }

/-! ### Noise procedures -/

/-- The velocity-modulated frequency of `nse_init_filter`, clamped to 20 .. 20000 Hz (R174). -/
def nseFreq (u : Noise) : Fx :=
  let f := numExp
    (fxAdd (numLn u.freq) (fxMul (fxMul u.vel u.velFreq) cLn1000))
  fxMin (fxMax f (fxOfInt 20)) (fxOfInt 20000)

/-- The velocity-modulated resonance of `nse_init_filter`, clamped to 0.707 .. 4 (R174). -/
def nseRes (u : Noise) : Fx :=
  fxMin (fxMax (fxAdd u.q (fxMul (fxMul u.vel u.velQ) cResRange)) c0707) (fxOfInt 4)

/-- `nse_init_filter` (R174): the Filter is tuned even when it is bypassed. -/
def nseInitFilter (u : Noise) : Noise :=
  { u with
    filterActive := filterActiveFlag u.mode (nseFreq u)
    flt := match u.mode with
      | .bp => fltBpProc u.flt u.srate (nseFreq u) (nseRes u)
      | .hp => fltHpProc u.flt u.srate (nseFreq u) (nseRes u)
      | .lp => fltLpProc u.flt u.srate (nseFreq u) (nseRes u) }

/-- `nse_init` (R173). -/
def nseInitProc (u : Noise) (srate : Fx) (mode : FMode)
    (freq q attackMs decayMs sustainDb releaseMs velFreq velQ : Fx) : Noise :=
  let n := nseInitFilter
    { u with srate := srate, mode := mode, freq := freq, q := q, velFreq := velFreq, velQ := velQ }
  { n with env := envInitProc n.env srate attackMs decayMs sustainDb releaseMs c04 c04 c04 }

/-- `nse_attack` (R175). The coefficients that spec/70_reset_and_hazards.md R335 gives for it on a
Noise at its reset values are those of `REFNUM` (DEDUCED, log entry 24). -/
def nseAttack (u : Noise) (vel : Fx) : Noise :=
  let n := nseInitFilter { u with vel := vel }
  { n with env := envAttackProc n.env fxOne }

/-- The clamp of a drawn word into `[-1, 1)` (R176). -/
def nseClampDraw (r : Fx) : Fx := fxMax (fxOfInt (-1)) (fxMin 0xFFFFFFFFFFFFFFFF#128 r)

/-- The part of `nse_process` after the draw `r` (R176): the Noise after one sample, and the
sample. -/
def nseSample (u : Noise) (r : Fx) : Noise × Fx :=
  let e := envProcess u.env
  let f := if u.filterActive then fltDf1One u.flt (nseClampDraw r) else u.flt
  let x := if u.filterActive then f.y0 else nseClampDraw r
  ({ u with env := e, flt := if e.state = .off then fltResetOne f else f }, fxMul x e.env)

/-- `nse_process` (R176) with `rng` waiting on `RNGIN`: the Noise after one sample, the sample and
the words left. A word is drawn exactly when the Envelope is not `Off` at entry; `none` when there
is none to draw. -/
def nseProcess (u : Noise) (rng : List Word) : Option (Noise × Fx × List Word) :=
  match u.env.state with
  | .off => some (u, 0#128, rng)
  | _ =>
    match rngDraw rng with
    | none => none
    | some (r, rest) => some ((nseSample u r).1, (nseSample u r).2, rest)

/-- `nse_release` (R177). That a release from `Off` ends on the next step rests on the sign of `rb`,
as in R138 (DEDUCED, log entry 24). -/
def nseRelease (u : Noise) : Noise := { u with env := envReleaseProc u.env }

/-- `nse_clear` (R178). -/
def nseClear (u : Noise) : Noise := { u with env := envResetProc u.env, flt := fltResetOne u.flt }

/-! ### Commands -/

/-- `MLT.TRIG` (R166). -/
def execMltTrig (t : Target) (srate freq : Word) (s : State) : Result :=
  atVoice selMallet t s fun _ v => (v.setMallet (mltTrigger v.mallet srate freq), [])

/-- `MLT.PROC` (R167). -/
def execMltProc (t : Target) (s : State) : Result :=
  atVoice selMallet t s fun _ v =>
    (v.setMallet (mltProcess v.mallet).1, [(mltProcess v.mallet).2])

/-- `MLT.CLR` (R168). -/
def execMltClr (t : Target) (s : State) : Result :=
  atVoice selMallet t s fun _ v => (v.setMallet (mltClear v.mallet), [])

/-- `NSE.INIT` (R173). -/
def execNseInit (t : Target)
    (srate mode freq q attackMs decayMs sustainDb releaseMs velFreq velQ : Word)
    (s : State) : Result :=
  atVoice selNoise t s fun _ v =>
    (v.setNoise (nseInitProc v.noise srate (opFMode mode) freq q attackMs decayMs sustainDb
      releaseMs velFreq velQ), [])

/-- `NSE.ATK` (R175). -/
def execNseAtk (t : Target) (vel : Word) (s : State) : Result :=
  atVoice selNoise t s fun _ v => (v.setNoise (nseAttack v.noise vel), [])

/-- `NSE.PROC` (R176): the one unit command that draws from `RNGIN`. -/
def execNseProc (t : Target) (s : State) : Result :=
  match checkTarget selNoise s.nv t with
  | .error e => raiseError e s
  | .ok _ =>
    match nseProcess (voiceAt s.voices t.v.toNat).noise s.rngIn with
    | none => .fault .rngWait
    | some (n, x, rest) =>
      complete [x]
        { setVoice t.v.toNat ((voiceAt s.voices t.v.toNat).setNoise n) s with rngIn := rest }

/-- `NSE.REL` (R177). -/
def execNseRel (t : Target) (s : State) : Result :=
  atVoice selNoise t s fun _ v => (v.setNoise (nseRelease v.noise), [])

/-- `NSE.CLR` (R178). -/
def execNseClr (t : Target) (s : State) : Result :=
  atVoice selNoise t s fun _ v => (v.setNoise (nseClear v.noise), [])

end Sys2Proof.Machine
end

