-- ==== Sys2Proof/Machine/PartialUnit.lean ====
section
/-! DEFINITION. The Partial: the procedures of spec/44_partial.md and the meanings of the three PRT
commands. -/

namespace Sys2Proof.Machine

/-! ### Procedures -/

/-- `prt_inert` (R186). -/
def prtInert (u : Partial) : Partial :=
  { u with a0 := fxOne, a1 := 0#128, a2 := 0#128, b0 := 0#128, b2 := 0#128 }

/-- `mod_decay` (R190), shared with the Waveguide. The pseudocode is followed where the sentences
beside it say more (DEDUCED, log entry 24): that `decay <= 0` gives `dk = 0`, here and without
`REFNUM` in spec/45_waveguide.md R202, needs `vel * vel_decay` below 1 even under `REFNUM`; and
`dk` is `decay` or 100 at the fractions 0 and 1 only as far as the open `NUM.exp` and `NUM.ln`
undo each other. -/
def modDecay (decay vel velDecay rel : Fx) (isRelease : Bool) : Fx :=
  let dk := numExp
    (fxAdd (numLn decay)
      (fxMul (fxMul vel velDecay) (fxSub cLn100 (numLn decay))))
  let dk := fxMax 0#128 (fxMin (fxOfInt 100) dk)
  if isRelease then fxMul dk rel else dk

/-- The hard-wired mode number of Partial `i` (R29). -/
def prtK (i : Nat) : Nat := i + 1

/-- The warping factor `ik` that step 1 of `prt_update` leaves (R187). With `ratio` = `FX_ONE` it is
`FX_ONE`, whatever the other registers hold (R191, log entry 23). That it is 1 with `inharm <= 0`
under `REFNUM`, as the corner case says, fails for an extreme `vel * vel_inharm`: the pseudocode is
followed (DEDUCED, log entry 24). -/
def prtWarp (u : Partial) (ratio vel : Fx) : Fx :=
  let ik := numExp
    (fxAdd (numLn u.inharm) (fxMul (fxMul vel u.velInharm) cLn10000))
  let ik := fxMax 0#128 (fxSub (fxMin fxOne ik) c00001)
  let rm1 := fxSub ratio fxOne
  numSqrt (fxAdd fxOne (fxMul ik (fxMul rm1 rm1)))

/-- The Partial's frequency `f_k`: step 2 of `prt_update` (R187). -/
def prtFreq (u : Partial) (f0 ratio vel : Fx) : Fx :=
  fxMul (fxMul f0 ratio) (prtWarp u ratio vel)

/-- The Nyquist safety bound `48 srate / 100` of step 4 (R187). -/
def prtNyquist (srate : Fx) : Fx := fxDiv (fxMul (fxOfInt 48) srate) (fxOfInt 100)

/-- The test of step 4 of `prt_update`: the Partial is silent (R187). -/
def prtSilent (u : Partial) (fk dk : Fx) : Bool :=
  decide (fxLe (prtNyquist u.srate) fk) || decide (fxLt fk (fxOfInt 20)) || decide (fxLe dk 0#128)

/-- `f_max` of step 5 (R187). -/
def prtFreqMax (u : Partial) (f0 ratio ratioMax vel : Fx) : Fx :=
  fxMin (fxOfInt 20000) (fxMul (fxMul f0 ratioMax) (prtWarp u ratio vel))

/-- The decay time of step 5 after the division by `damp_k` (R187). -/
def prtDamped (u : Partial) (f0 fk fmax dk : Fx) : Fx :=
  let dbase := if fxLe u.damp 0#128 then fxDiv f0 fk else fxDiv fmax fk
  fxDiv dk (numPow dbase (fxMul (fxOfInt 2) u.damp))

/-- `tone_gain` of step 5 (R187). -/
def prtToneGain (u : Partial) (f0 fk fmax : Fx) : Fx :=
  let tbase := if fxLe u.tone 0#128 then fxDiv fk f0 else fxDiv fk fmax
  numPow tbase (fxMul (fxOfInt 2) u.tone)

/-- `amp_k` of step 5, for Partial `i` (R187). -/
def prtAmp (i : Nat) (u : Partial) (vel : Fx) : Fx :=
  let hitMod := fxMin c05 (fxAdd u.hit (fxDiv (fxMul u.velHit vel) (fxOfInt 2)))
  fxMul (fxOfInt 35)
    (fxAbs (numSin (fxMul (fxMul fxPi (fxOfInt (prtK i))) hitMod)))

/-- Step 6 of `prt_update`: the coefficients from the damped decay time `dk` (R187). -/
def prtAssemble (u : Partial) (fk dk toneGain amp : Fx) : Partial :=
  let omega := fxDiv (fxMul fxTwoPi fk) u.srate
  let alpha := fxDiv fxTwoPi u.srate
  let b0 := fxMul (fxMul alpha toneGain) amp
  let ad := fxDiv alpha dk
  { u with
    b0 := b0
    b2 := fxNeg b0
    a1 := fxMul (fxOfInt (-2)) (numCos omega)
    a0 := fxAdd fxOne ad
    a2 := fxSub fxOne ad }

/-- `prt_update` for Partial `i` of its bank (R187): the history is never touched. -/
def prtUpdate (i : Nat) (u : Partial) (f0 ratio ratioMax vel : Fx) (isRelease : Bool) : Partial :=
  let fk := prtFreq u f0 ratio vel
  let dk := modDecay u.decay vel u.velDecay u.rel isRelease
  if prtSilent u fk dk then prtInert u
  else
    let fmax := prtFreqMax u f0 ratio ratioMax vel
    let dk := prtDamped u f0 fk fmax dk
    if fxLe dk 0#128 then prtInert u
    else prtAssemble u fk dk (prtToneGain u f0 fk fmax) (prtAmp i u vel)

/-- The new output of the recurrence on one lane (R188): four products, one rounding, one
division by `a0`. -/
def prtTap (u : Partial) (x x2 y1 y2 : Fx) : Fx :=
  fxDiv
    (fxDot [(u.b0.toInt, x.toInt), (u.b2.toInt, x2.toInt), (-u.a1.toInt, y1.toInt),
      (-u.a2.toInt, y2.toInt)])
    u.a0

/-- The output of `prt_process` (R188). -/
def prtOut (u : Partial) (x : V4) : V4 :=
  { l0 := prtTap u x.l0 u.x2.l0 u.y1.l0 u.y2.l0, l1 := prtTap u x.l1 u.x2.l1 u.y1.l1 u.y2.l1,
    l2 := prtTap u x.l2 u.x2.l2 u.y1.l2 u.y2.l2, l3 := prtTap u x.l3 u.x2.l3 u.y1.l3 u.y2.l3 }

/-- The Partial after `prt_process` (R188): the history shifts. Its output is `y1`. -/
def prtProcess (u : Partial) (x : V4) : Partial :=
  { u with x2 := u.x1, x1 := x, y2 := u.y1, y1 := prtOut u x }

/-- `prt_clear` (R189). -/
def prtClear (u : Partial) : Partial :=
  { u with x1 := .zero, x2 := .zero, y1 := .zero, y2 := .zero }

/-! ### Commands -/

/-- Runs a PRT command on the Partial that `U` and `K` select: `f` gives the Partial after it and
the result words. -/
def atPartial (t : Target) (s : State) (f : Partial → Partial × List Word) : Result :=
  atVoice selPart t s fun sd v =>
    (v.setPart sd t.k.toNat (f (bankGet (v.res sd).parts t.k.toNat)).1,
      (f (bankGet (v.res sd).parts t.k.toNat)).2)

/-- `PRT.UPD` (R187). -/
def execPrtUpd (t : Target) (f0 ratio ratioMax vel isRelease : Word) (s : State) : Result :=
  atPartial t s fun u => (prtUpdate t.k.toNat u f0 ratio ratioMax vel (opBool isRelease), [])

/-- `PRT.PROC` (R188). -/
def execPrtProc (t : Target) (in0 in1 in2 in3 : Word) (s : State) : Result :=
  atPartial t s fun u =>
    (prtProcess u ⟨in0, in1, in2, in3⟩, (prtOut u ⟨in0, in1, in2, in3⟩).words)

/-- `PRT.CLR` (R189). -/
def execPrtClr (t : Target) (s : State) : Result :=
  atPartial t s fun u => (prtClear u, [])

end Sys2Proof.Machine
end

