-- ==== Sys2Proof/Machine/WaveguideUnit.lean ====
section
/-! DEFINITION. The Waveguide: the procedures of spec/45_waveguide.md and the meanings of the three
WGD commands. -/

namespace Sys2Proof.Machine

/-! ### Procedures -/

/-- The tube length of `wgd_update` before it is stored (R202): the integer part of `srate / f0`,
halved for a closed tube, clamped to `1 .. WG_LEN`. The corner cases on `f0` are so for a
positive `srate` (DEDUCED, log entry 24). -/
def wgdTubeLen (wgLen : Nat) (u : Waveguide) (f0 : Fx) : Nat :=
  let t := (fxFloorU32 (fxDiv u.srate f0)).toNat
  let t := if u.isClosed then t / 2 else t
  (clampInt t 1 wgLen).toNat

/-- `tube_decay` for a decay time `dk` (R202). The pseudocode is followed where the corner cases say
more (DEDUCED, log entry 24): with `decay <= 0` it is 0 only if `mod_decay` gives `dk <= 0`, which
rests on the open `NUM`; and that it is above 1 with `f0 < 0` is not required of the open
`NUM.exp`. -/
def wgdTubeDecay (u : Waveguide) (f0 dk : Fx) : Fx :=
  if fxLt 0#128 dk then
    numExp (fxNeg (fxDiv (fxMul fxPi (fxOfInt 125000)) (fxMul (fxMul f0 u.srate) dk)))
  else 0#128

/-- `wgd_update` (R202): the buffer, `write_ptr` and `y_prev` are kept. -/
def wgdUpdate (wgLen : Nat) (u : Waveguide) (f0 vel : Fx) (isRelease : Bool) : Waveguide :=
  let t := wgdTubeLen wgLen u f0
  { u with
    tlen := BitVec.ofNat 32 t
    readPtr := BitVec.ofInt 32 (((u.writePtr.toNat : Int) - t) % (wgLen : Int))
    tubeDecay := wgdTubeDecay u f0 (modDecay u.decay vel u.velDecay u.rel isRelease) }

/-- The one-pole lowpass on one lane (R203): two products, one rounding. -/
def wgdTap (radius smp yPrev : Fx) : Fx :=
  fxDot [(radius.toInt, smp.toInt), ((fxSub fxOne radius).toInt, yPrev.toInt)]

/-- The lowpass state after one step of `wgd_process` (R203). -/
def wgdLowpass (u : Waveguide) : V4 :=
  V4.map3 wgdTap u.radius (wgRead u.buf u.readPtr.toNat) u.yPrev

/-- The output of `wgd_process` (R203): the damped, decayed sample. -/
def wgdOut (u : Waveguide) : V4 := (wgdLowpass u).map fun y => fxMul y u.tubeDecay

/-- A pointer advanced by one modulo `WG_LEN` (R200, R203). -/
def wgdAdvance (wgLen : Nat) (p : U32) : U32 := BitVec.ofNat 32 ((p.toNat + 1) % wgLen)

/-- The Waveguide after `wgd_process` (R203): the read at `read_ptr` comes before the write at
`write_ptr` (spec/20_memory.md R74). -/
def wgdProcess (wgLen : Nat) (u : Waveguide) (x : V4) : Waveguide :=
  { u with
    yPrev := wgdLowpass u
    buf := wgWrite u.buf u.writePtr.toNat
      (V4.map2 (if u.isClosed then fxSub else fxAdd) x (wgdOut u))
    readPtr := wgdAdvance wgLen u.readPtr
    writePtr := wgdAdvance wgLen u.writePtr }

/-- `wgd_clear` (R204): every entry of the buffer is zero, so none is listed. -/
def wgdClear (u : Waveguide) : Waveguide :=
  { u with buf := [], readPtr := 0#32, writePtr := 0#32, yPrev := .zero }

/-! ### Commands -/

/-- Runs a WGD command: `f` gives the Waveguide after it and the result words. -/
def atWaveguide (t : Target) (s : State) (f : Waveguide → Waveguide × List Word) : Result :=
  atVoice selWg t s fun sd v => (v.setWg sd (f (v.res sd).wg).1, (f (v.res sd).wg).2)

/-- `WGD.UPD` (R202). -/
def execWgdUpd (t : Target) (f0 vel isRelease : Word) (s : State) : Result :=
  atWaveguide t s fun u => (wgdUpdate s.params.wgLen u f0 vel (opBool isRelease), [])

/-- `WGD.PROC` (R203). -/
def execWgdProc (t : Target) (in0 in1 in2 in3 : Word) (s : State) : Result :=
  atWaveguide t s fun u =>
    (wgdProcess s.params.wgLen u ⟨in0, in1, in2, in3⟩, (wgdOut u).words)

/-- `WGD.CLR` (R204). -/
def execWgdClr (t : Target) (s : State) : Result :=
  atWaveguide t s fun u => (wgdClear u, [])

end Sys2Proof.Machine
end

