-- ==== Sys2Proof/Machine/ResonatorUnit.lean ====
section
/-! DEFINITION. The Resonator: the procedures of spec/46_resonator.md and the meanings of the five RES
commands. -/

namespace Sys2Proof.Machine

/-! ### Procedures -/

/-- A post-filter frequency clamped to 20 .. 20000 Hz (R216). -/
def resClampFreq (f : Fx) : Fx := fxMin (fxMax f (fxOfInt 20)) (fxOfInt 20000)

/-- `res_tune_post` (R216). -/
def resTunePost (u : Resonator) : BiquadFilter V4 :=
  if fxLt u.cut 0#128 then
    fltLpProc u.post u.srate
      (resClampFreq (numExp (fxAdd cLn20000 (fxMul u.cut cLn1000)))) c0707
  else
    fltHpProc u.post u.srate
      (resClampFreq (numExp (fxAdd cLn20 (fxMul u.cut cLn1000)))) c0707

/-- The shared parameters of a Resonator pushed into one of its Partials (R217). -/
def resPushPartial (u : Resonator) (p : Partial) : Partial :=
  { p with
    decay := u.decay, damp := u.damp, tone := u.tone, hit := u.hit, rel := u.rel
    inharm := u.inharm, velDecay := u.velDecay, velHit := u.velHit, velInharm := u.velInharm
    srate := u.srate }

/-- The shared parameters of a Resonator pushed into its Waveguide (R217). -/
def resPushWaveguide (u : Resonator) (w : Waveguide) : Waveguide :=
  { w with
    isClosed := isClosedFlag u.model, srate := u.srate, decay := u.decay, rel := u.rel
    velDecay := u.velDecay, radius := u.radius }

/-- The operands of `RES.SETP` as they are stored (R217). -/
structure ResParams where
  srate : Fx
  on : Bool
  model : BitVec 8
  npartials : BitVec 8
  decay : Fx
  damp : Fx
  tone : Fx
  hit : Fx
  rel : Fx
  inharm : Fx
  cut : Fx
  radius : V4
  velDecay : Fx
  velHit : Fx
  velInharm : Fx
deriving DecidableEq, Repr

/-- The Resonator with its own parameter registers set (R217). -/
def resStoreParams (u : Resonator) (p : ResParams) : Resonator :=
  { u with
    srate := p.srate, on := p.on, model := p.model, npartials := p.npartials, decay := p.decay
    damp := p.damp, tone := p.tone, hit := p.hit, rel := p.rel, inharm := p.inharm, cut := p.cut
    radius := p.radius, velDecay := p.velDecay, velHit := p.velHit, velInharm := p.velInharm }

/-- `res_set_params` (R217): the post Filter is retuned at once, and the shared parameters go to
all 64 Partials and to the Waveguide whichever is selected. -/
def resSetParams (u : Resonator) (p : ResParams) : Resonator :=
  let r := resStoreParams u p
  { r with
    post := resTunePost r
    parts := bankMapBelow Config.npart (fun _ q => resPushPartial r q) r.parts
    wg := resPushWaveguide r r.wg }

/-- `res_activate` (R219). -/
def resActivate (u : Resonator) : Resonator := { u with active := true, silence := 0#32 }

/-- `res_update` (R218): the selected variant alone; the reference ratio is `model[63]`. -/
def resUpdate (wgLen : Nat) (u : Resonator) (freq vel : Fx) (isRelease : Bool)
    (model : List Fx) : Resonator :=
  if resIsBank u then
    { u with
      parts := bankMapBelow u.npartials.toNat
        (fun i p => prtUpdate i p freq (model.getD i 0#128) (model.getD 63 0#128) vel isRelease)
        u.parts }
  else
    { u with wg := wgdUpdate wgLen u.wg (fxMul (model.getD 0 0#128) freq) vel isRelease }

/-- The sum of the outputs of the first `npartials` Partials in rising index (R220). -/
def resBankOut (u : Resonator) (x : V4) : V4 :=
  ((u.parts.toList.take u.npartials.toNat).map fun p => prtOut p x).foldl V4.add .zero

/-- What `res_process` answers for an active Resonator (R220). -/
def resActiveOut (u : Resonator) (x : V4) : V4 :=
  if resIsBank u then resBankOut u x else wgdOut u.wg

/-- The Resonator after its selected variant has moved by one step (R220). -/
def resStepVariant (wgLen : Nat) (u : Resonator) (x : V4) : Resonator :=
  if resIsBank u then
    { u with parts := bankMapBelow u.npartials.toNat (fun _ p => prtProcess p x) u.parts }
  else { u with wg := wgdProcess wgLen u.wg x }

/-- `res_process` (R220): the Resonator after one step, and its output. An inactive Resonator is
frozen. -/
def resProcess (p : Params) (u : Resonator) (x : V4) : Resonator × V4 :=
  if u.active then
    let out := resActiveOut u x
    let n := silenceNext p.silenceMode u.silence out x
    ({ resStepVariant p.wgLen u x with
        silence := n, active := !silenceReached n u.srate }, out)
  else (u, .zero)

/-- `res_clear` (R221). -/
def resClear (u : Resonator) : Resonator :=
  { u with
    parts := bankMapBelow Config.npart (fun _ p => prtClear p) u.parts
    wg := wgdClear u.wg
    post := fltResetFour u.post }

/-! ### Commands -/

/-- Runs a RES command: `f` gives the Resonator after it and the result words. -/
def atResonator (t : Target) (s : State) (f : Resonator → Resonator × List Word) : Result :=
  atVoice selRes t s fun sd v => (v.setRes sd (f (v.res sd)).1, (f (v.res sd)).2)

/-- `RES.SETP` (R217). -/
def execResSetp (t : Target)
    (srate on model npartials decay damp tone hit rel inharm cut
      radius0 radius1 radius2 radius3 velDecay velHit velInharm : Word) (s : State) : Result :=
  atResonator t s fun u =>
    (resSetParams u
      { srate := srate, on := opBool on, model := legalModel model
        npartials := legalNPartials npartials, decay := decay, damp := damp, tone := tone
        hit := hit, rel := rel, inharm := inharm, cut := cut
        radius := ⟨radius0, radius1, radius2, radius3⟩
        velDecay := velDecay, velHit := velHit, velInharm := velInharm }, [])

/-- `RES.ACT` (R219). -/
def execResAct (t : Target) (s : State) : Result :=
  atResonator t s fun u => (resActivate u, [])

/-- `RES.UPD` (R218). -/
def execResUpd (t : Target) (freq vel isRelease : Word) (model : List Word) (s : State) : Result :=
  atResonator t s fun u => (resUpdate s.params.wgLen u freq vel (opBool isRelease) model, [])

/-- `RES.PROC` (R220). -/
def execResProc (t : Target) (in0 in1 in2 in3 : Word) (s : State) : Result :=
  atResonator t s fun u =>
    ((resProcess s.params u ⟨in0, in1, in2, in3⟩).1,
      (resProcess s.params u ⟨in0, in1, in2, in3⟩).2.words)

/-- `RES.CLR` (R221). -/
def execResClr (t : Target) (s : State) : Result :=
  atResonator t s fun u => (resClear u, [])

end Sys2Proof.Machine
end

