-- ==== Sys2Proof/Machine/VoiceUnit.lean ====
section
/-! DEFINITION. The Voice: the procedures of spec/47_voice.md and the meanings of the five VOI
commands. -/

namespace Sys2Proof.Machine

/-! ### Frequencies and pitch -/

/-- `voi_note2freq` (R236). -/
def voiNote2freq (note : Int) : Fx :=
  fxMul (fxOfInt 440) (numPow (fxOfInt 2) (fxDiv (fxOfInt (note - 69)) (fxOfInt 12)))

/-- `voi_pitch_factor` (R239). -/
def voiPitchFactor (coarse fine : Fx) : Fx :=
  numPow (fxOfInt 2) (fxDiv (fxAdd coarse (fxDiv fine (fxOfInt 100))) (fxOfInt 12))

/-! ### The two ratio tables of `updateResonators` -/

/-- Step 2 of `voi_update_resonators`: the table scaled by a pitch factor that is not one
(R240). -/
def voiScaleTable (table : List Fx) (pitch : Fx) : List Fx :=
  if pitch ≠ fxOne then table.map fun x => fxMul x pitch else table

/-- `COUPLE_DY` of the parameters, at a split amount (spec/00_scope.md R7, R240): the identity unless
the parameters say otherwise (log entry 6). -/
def voiCoupleDy (p : Params) (split : Fx) : Fx :=
  match p.coupleLaw with
  | .identity => split
  | .other => Config.coupleDyOpen split

/-- The shift `r` of one pair of pre-coupling frequencies at difference `d` (R240). The corner case
`sh = dy` at `d` = 0 would need the open `NUM.sqrt` to undo the square, which rounds: the pseudocode
is followed (DEDUCED, log entry 24). -/
def voiShift (freq dy d : Fx) : Fx :=
  let dx := fxDiv (fxAbs d) (fxOfInt 2)
  fxDiv (fxSub (numSqrt (fxAdd (fxMul dx dx) (fxMul dy dy))) dx) freq

/-- One turn of the double loop of step 3: pair `(i, j)` with pre-coupling frequencies `fai`, `fbj`
(R240). The two tables are moved apart by the shift if the pair is within the threshold. -/
def voiCouplePair (thresh freq dy fai fbj : Fx) (i j : Nat) (tabs : List Fx × List Fx) :
    List Fx × List Fx :=
  let d := fxSub fai fbj
  if fxLe (fxAbs d) thresh then
    let r := voiShift freq dy d
    let tai := tabs.1.getD i 0#128
    let tbj := tabs.2.getD j 0#128
    if fxLe 0#128 d then (tabs.1.set i (fxAdd tai r), tabs.2.set j (fxSub tbj r))
    else (tabs.1.set i (fxSub tai r), tabs.2.set j (fxAdd tbj r))
  else tabs

/-- Step 3 of `voi_update_resonators`: all 64 × 64 pairs, rising `i` and inside it rising `j`; the
tests use the pre-coupling frequencies and the corrections accumulate (R240). -/
def voiCoupleTables (thresh freq dy : Fx) (tabs : List Fx × List Fx) : List Fx × List Fx :=
  let fa := tabs.1.map fun x => fxMul x freq
  let fb := tabs.2.map fun x => fxMul x freq
  (List.range 64).foldl
    (fun acc i => (List.range 64).foldl
      (fun acc j => voiCouplePair thresh freq dy (fa.getD i 0#128) (fb.getD j 0#128) i j acc) acc)
    tabs

/-- Steps 1 to 3 of `voi_update_resonators`: the tables pushed into sides A and B (R240). -/
def voiTables (p : Params) (models : Memory) (v : Voice) : List Fx × List Fx :=
  let ta := voiScaleTable (mdlTable models .a v.resA.model.toNat) v.pitchA
  let tb := voiScaleTable (mdlTable models .b v.resB.model.toNat) v.pitchB
  if coupledFlag v then
    voiCoupleTables p.coupleThresh v.freq (voiCoupleDy p v.split) (ta, tb)
  else (ta, tb)

/-- Step 4 for one Resonator: `res_update` if it is on (R240). -/
def voiPushTable (p : Params) (v : Voice) (r : Resonator) (table : List Fx) : Resonator :=
  if r.on then resUpdate p.wgLen r v.freq v.vel v.isRelease table else r

/-- `voi_update_resonators` (R240). -/
def voiUpdateResonators (p : Params) (models : Memory) (v : Voice) : Voice :=
  { v with
    resA := voiPushTable p v v.resA (voiTables p models v).1
    resB := voiPushTable p v v.resB (voiTables p models v).2 }

/-! ### Trigger, release, clear -/

/-- A Resonator as `voi_trigger` prepares it: cleared, and activated if it is on (R237). -/
def voiStartResonator (r : Resonator) : Resonator :=
  if r.on then resActivate (resClear r) else resClear r

/-- `voi_trigger` before the call of `voi_update_resonators` (R237). -/
def voiStart (v : Voice) (srate : Fx) (note velocity : Int) (malletFreq : Fx) : Voice :=
  let n := clampInt note 0 127
  let vel := fxDiv (fxOfInt (clampInt velocity 0 127)) (fxOfInt 127)
  { v with
    note := BitVec.ofInt 7 n
    freq := voiNote2freq n
    vel := vel
    isPressed := true
    isRelease := false
    mallet := mltTrigger v.mallet srate malletFreq
    noise := nseAttack v.noise vel
    resA := voiStartResonator v.resA
    resB := voiStartResonator v.resB }

/-- `voi_trigger` (R237). -/
def voiTrigger (p : Params) (models : Memory) (v : Voice) (srate : Fx) (note velocity : Int)
    (malletFreq : Fx) : Voice :=
  { voiUpdateResonators p models (voiStart v srate note velocity malletFreq) with frames := 0#32 }

/-- `voi_release` (R238). -/
def voiRelease (p : Params) (models : Memory) (v : Voice) : Voice :=
  voiUpdateResonators p models
    { v with isRelease := true, isPressed := false, noise := nseRelease v.noise }

/-- `voi_clear` (R241). -/
def voiClear (v : Voice) : Voice :=
  { v with
    mallet := mltClear v.mallet, noise := nseClear v.noise
    resA := resClear v.resA, resB := resClear v.resB }

/-! ### Commands -/

/-- `VOI.TRIG` (R237). -/
def execVoiTrig (t : Target) (srate note velocity malletFreq : Word) (s : State) : Result :=
  atVoice selVoice t s fun _ v =>
    (voiTrigger s.params s.models v srate (sint note) (sint velocity) malletFreq, [])

/-- `VOI.REL` (R238). -/
def execVoiRel (t : Target) (s : State) : Result :=
  atVoice selVoice t s fun _ v => (voiRelease s.params s.models v, [])

/-- `VOI.PITCH` (R239): the factors are stored only. -/
def execVoiPitch (t : Target) (coarseA coarseB fineA fineB : Word) (s : State) : Result :=
  atVoice selVoice t s fun _ v =>
    ({ v with pitchA := voiPitchFactor coarseA fineA, pitchB := voiPitchFactor coarseB fineB }, [])

/-- `VOI.UPD` (R240). -/
def execVoiUpd (t : Target) (s : State) : Result :=
  atVoice selVoice t s fun _ v => (voiUpdateResonators s.params s.models v, [])

/-- `VOI.CLR` (R241). -/
def execVoiClr (t : Target) (s : State) : Result :=
  atVoice selVoice t s fun _ v => (voiClear v, [])

end Sys2Proof.Machine
end

