-- ==== Sys2Proof/Machine/Pool.lean ====
section
/-! DEFINITION. The voice pool arbiter, the note commands and the render datapath: the procedures of
spec/48_pool_render.md and the meanings of `POOL.NEXT`, `NOTE.ON`, `NOTE.OFF` and `RENDER`. -/

namespace Sys2Proof.Machine

/-! ### The arbiter -/

/-- The scan of `pool_next` over the voices from index `i` on, `best` being the first maximum so
far and `most` its counter (R256). -/
def poolScan : List Voice → Nat → Nat → U32 → Nat
  | [], _, best, _ => best
  | v :: vs, i, best, most =>
    if most.toNat < v.frames.toNat then poolScan vs (i + 1) i v.frames
    else poolScan vs (i + 1) best most

/-- `pool_next` (R256): the lowest index among the voices with the largest `frames`. That voices never
triggered are taken first (R255) fails where a triggered voice of a lower index has a saturated
counter: the pseudocode is followed (DEDUCED, log entry 24). -/
def poolNext (vs : List Voice) : Nat := poolScan vs 0 0 (voiceAt vs 0).frames

/-! ### Notes -/

/-- Whether `NOTE.OFF` releases a voice: it is pressed and holds the note (R258). -/
def noteHeld (n : BitVec 7) (v : Voice) : Bool := v.isPressed && v.note == n

/-! ### One frame (R260 to R262) -/

/-- What one voice gives to a frame. -/
structure VoiceFrame where
  /-- the voice after the frame -/
  voice : Voice
  /-- its term of the direct bus -/
  direct : Fx
  /-- its output `vo` -/
  out : V4
deriving DecidableEq, Repr

/-- A two-term mix: exact sum, one rounding (R260). -/
def mix2 (m gm n gn : Fx) : Fx := fxDot [(m.toInt, gm.toInt), (n.toInt, gn.toInt)]

/-- One enabled Resonator and its post Filter over one step (R262): the Resonator after it; its
post-filtered output is `post.y0`. -/
def resPostStep (p : Params) (r : Resonator) (x : V4) : Resonator :=
  let q := resProcess p r x
  { q.1 with post := fltDf1Four q.1.post q.2 }

/-- A Resonator over one frame (R261, R262): one that is off does not move. -/
def resFrame (p : Params) (r : Resonator) (x : V4) : Resonator :=
  if r.on then resPostStep p r x else r

/-- The output of a Resonator over one frame: one that is off gives 0 (R261). -/
def resFrameOut (p : Params) (r : Resonator) (x : V4) : V4 :=
  if r.on then (resPostStep p r x).post.y0 else .zero

/-- The part of a voice's frame after the exciters: `m`, `ns` are their samples, `v` the voice
with both already advanced (R261, R262). -/
def voiceFrameOf (p : Params) (g : Globals) (v : Voice) (m ns : Fx) : VoiceFrame :=
  let e4 := V4.splat (mix2 m g.malletRes ns g.noiseRes)
  let a := resFrameOut p v.resA e4
  let inB := if coupledFlag v then a else e4
  let b := resFrameOut p v.resB inB
  { voice := { v with resA := resFrame p v.resA e4, resB := resFrame p v.resB inB }
    direct := mix2 m g.malletMix ns g.noiseMix
    out := if coupledFlag v then b else V4.add a b }

/-- One voice over one frame, with `rng` waiting on `RNGIN` (R262). -/
def voiceFrame (p : Params) (g : Globals) (v : Voice) (rng : List Word) :
    Option (VoiceFrame × List Word) :=
  let m := mltProcess v.mallet
  match nseProcess v.noise rng with
  | none => none
  | some (n, ns, rest) => some (voiceFrameOf p g { v with mallet := m.1, noise := n } m.2 ns, rest)

/-- The state of the voice loop of `render_frame`: the voices done, the two buses and the words
left on `RNGIN`. -/
structure FrameAcc where
  voices : List Voice
  dir : Fx
  res : V4
  rng : List Word
deriving DecidableEq, Repr

/-- The voice loop of `render_frame`, in rising index (R262): `dir` and `res` are the buses so
far. -/
def frameVoices (p : Params) (g : Globals) : List Voice → Fx → V4 → List Word → Option FrameAcc
  | [], dir, res, rng => some { voices := [], dir := dir, res := res, rng := rng }
  | v :: vs, dir, res, rng =>
    match voiceFrame p g v rng with
    | none => none
    | some (f, rest) =>
      match frameVoices p g vs (fxAdd dir f.direct) (V4.add res f.out) rest with
      | none => none
      | some acc => some { acc with voices := f.voice :: acc.voices }

/-- The output of a frame from its two buses (R262). -/
def frameOut (g : Globals) (dir : Fx) (res : V4) : V4 :=
  res.map fun r => fxAdd dir (fxMul r g.gain)

/-- `n` frames (R262): the voices after them, the output words in order, and the words left on
`RNGIN`; `none` when `RNGIN` runs out. -/
def renderFrames (p : Params) (g : Globals) :
    Nat → List Voice → List Word → Option (List Voice × List Word × List Word)
  | 0, vs, rng => some (vs, [], rng)
  | n + 1, vs, rng =>
    match frameVoices p g vs 0#128 .zero rng with
    | none => none
    | some acc =>
      match renderFrames p g n acc.voices acc.rng with
      | none => none
      | some (vs', ws, rest) => some (vs', (frameOut g acc.dir acc.res).words ++ ws, rest)

/-- The counters after a block of `n` frames (R255, R262). -/
def advanceFrames (n : Nat) (v : Voice) : Voice := { v with frames := addSat32 v.frames n }

/-! ### Commands -/

/-- `POOL.NEXT` (R256): a pure query. -/
def execPoolNext (s : State) : Result := complete [wordOfNat (poolNext s.voices)] s

/-- `NOTE.ON` (R257). -/
def execNoteOn (note velocity : Word) (s : State) : Result :=
  let i := poolNext s.voices
  complete [wordOfNat i]
    (setVoice i (voiTrigger s.params s.models (voiceAt s.voices i) s.globals.srate
      (opInt 0 127 note) (opInt 0 127 velocity) s.globals.malletFreq) s)

/-- `NOTE.OFF` (R258): releases every voice that is pressed and holds the note. -/
def execNoteOff (note : Word) (s : State) : Result :=
  let n := legalNote note
  complete [wordOfNat (s.voices.countP (noteHeld n))]
    { s with
      voices := s.voices.map fun v => if noteHeld n v then voiRelease s.params s.models v else v }

/-- `RENDER` (R262): one command, whatever the number of frames (spec/20_memory.md R66). -/
def execRender (frameCount : Word) (s : State) : Result :=
  let n := (opInt 0 Config.framesMax frameCount).toNat
  match renderFrames s.params s.globals n s.voices s.rngIn with
  | none => .fault .rngWait
  | some (vs, ws, rest) =>
    complete ws { s with voices := vs.map (advanceFrames n), rngIn := rest }

end Sys2Proof.Machine
end

