-- ==== Sys2Proof/Machine/SystemUnit.lean ====
section
/-! DEFINITION. The system commands, the register access commands with the field tables of
spec/10_state.md R24 to R32, and the model-memory commands: spec/49_system.md. -/

namespace Sys2Proof.Machine

/-! ### Field tables: reading (R25 to R32, R279)

Each function gives the word of a field, `none` if the unit has no such field. -/

/-- Envelope fields 0 to 15 (R25). -/
def readEnvelope (u : Envelope) : Nat → Option Word
  | 0 => some (wordOfNat u.state.code)
  | 1 => some u.env
  | 2 => some u.scale
  | 3 => some u.att
  | 4 => some u.dec
  | 5 => some u.sus
  | 6 => some u.rel
  | 7 => some u.ta
  | 8 => some u.td
  | 9 => some u.tr
  | 10 => some u.ab
  | 11 => some u.ac
  | 12 => some u.db
  | 13 => some u.dc
  | 14 => some u.rb
  | 15 => some u.rc
  | _ => none

/-- Filter coefficient fields 0 to 4 (R26). -/
def readCoef {α : Type} (u : BiquadFilter α) : Nat → Option Word
  | 0 => some u.a1
  | 1 => some u.a2
  | 2 => some u.b0
  | 3 => some u.b1
  | 4 => some u.b2
  | _ => none

/-- Filter history `h` = 0 .. 5: `x0, x1, x2, y0, y1, y2` (R26, R279). -/
def readHist {α : Type} (u : BiquadFilter α) : Nat → Option α
  | 0 => some u.x0
  | 1 => some u.x1
  | 2 => some u.x2
  | 3 => some u.y0
  | 4 => some u.y1
  | 5 => some u.y2
  | _ => none

/-- Fields of a one-lane Filter: `8 + 4 h` (R26). -/
def readFilterOne (u : BiquadFilter Fx) (n : Nat) : Option Word :=
  if n < 8 then readCoef u n
  else if (n - 8) % 4 = 0 then readHist u ((n - 8) / 4)
  else none

/-- Fields of a four-lane Filter: `8 + 4 h + l` (R26). -/
def readFilterFour (u : BiquadFilter V4) (n : Nat) : Option Word :=
  if n < 8 then readCoef u n
  else (readHist u ((n - 8) / 4)).map fun x => x.lane ((n - 8) % 4)

/-- Mallet fields 0 to 2 (R27). -/
def readMallet (u : Mallet) : Nat → Option Word
  | 0 => some u.impulse
  | 1 => some u.env
  | 2 => some (wordOfNat u.elapsed.toNat)
  | _ => none

/-- Noise fields 0 to 7 (R28). -/
def readNoise (u : Noise) : Nat → Option Word
  | 0 => some u.vel
  | 1 => some u.freq
  | 2 => some u.q
  | 3 => some (wordOfNat u.mode.code)
  | 4 => some u.velFreq
  | 5 => some u.velQ
  | 6 => some (wordOfBool u.filterActive)
  | 7 => some u.srate
  | _ => none

/-- Partial history `h` = 0 .. 3: `x1, x2, y1, y2` (R29, R279). -/
def readPartialHist (u : Partial) : Nat → Option V4
  | 0 => some u.x1
  | 1 => some u.x2
  | 2 => some u.y1
  | 3 => some u.y2
  | _ => none

/-- Partial fields 0 to 15 and `16 + 4 h + l`, for Partial `i`: field 0 is the hard-wired mode
number (R29). -/
def readPartial (i : Nat) (u : Partial) : Nat → Option Word
  | 0 => some (wordOfNat (prtK i))
  | 1 => some u.decay
  | 2 => some u.damp
  | 3 => some u.tone
  | 4 => some u.hit
  | 5 => some u.rel
  | 6 => some u.inharm
  | 7 => some u.velDecay
  | 8 => some u.velHit
  | 9 => some u.velInharm
  | 10 => some u.srate
  | 11 => some u.a0
  | 12 => some u.a1
  | 13 => some u.a2
  | 14 => some u.b0
  | 15 => some u.b2
  | n => (readPartialHist u ((n - 16) / 4)).map fun x => x.lane ((n - 16) % 4)

/-- The field id of word 0 of the delay buffer (R30). -/
abbrev wgBufBase : Nat := 0x10000

/-- Waveguide fields 0 to 16 and `0x10000 + 4 a + l` for `a < WG_LEN` (R30). -/
def readWaveguide (wgLen : Nat) (u : Waveguide) (n : Nat) : Option Word :=
  match n with
  | 0 => some (wordOfBool u.isClosed)
  | 1 => some u.srate
  | 2 => some u.decay
  | 3 => some u.radius.l0
  | 4 => some u.radius.l1
  | 5 => some u.radius.l2
  | 6 => some u.radius.l3
  | 7 => some u.rel
  | 8 => some u.velDecay
  | 9 => some (wordOfNat u.readPtr.toNat)
  | 10 => some (wordOfNat u.writePtr.toNat)
  | 11 => some u.tubeDecay
  | 12 => some (wordOfNat u.tlen.toNat)
  | 13 => some u.yPrev.l0
  | 14 => some u.yPrev.l1
  | 15 => some u.yPrev.l2
  | 16 => some u.yPrev.l3
  | n =>
    if wgBufBase ≤ n ∧ (n - wgBufBase) / 4 < wgLen then some (u.buf.read (n - wgBufBase))
    else none

/-- Resonator fields 0 to 19 (R31). -/
def readResonator (u : Resonator) : Nat → Option Word
  | 0 => some (wordOfBool u.on)
  | 1 => some (wordOfNat u.model.toNat)
  | 2 => some (wordOfNat u.npartials.toNat)
  | 3 => some u.decay
  | 4 => some u.damp
  | 5 => some u.tone
  | 6 => some u.hit
  | 7 => some u.rel
  | 8 => some u.inharm
  | 9 => some u.cut
  | 10 => some u.radius.l0
  | 11 => some u.radius.l1
  | 12 => some u.radius.l2
  | 13 => some u.radius.l3
  | 14 => some u.velDecay
  | 15 => some u.velHit
  | 16 => some u.velInharm
  | 17 => some u.srate
  | 18 => some (wordOfNat u.silence.toNat)
  | 19 => some (wordOfBool u.active)
  | _ => none

/-- Voice fields 0 to 9 (R32). -/
def readVoice (u : Voice) : Nat → Option Word
  | 0 => some (wordOfNat u.note.toNat)
  | 1 => some u.freq
  | 2 => some u.vel
  | 3 => some (wordOfBool u.isPressed)
  | 4 => some (wordOfBool u.isRelease)
  | 5 => some (wordOfBool u.couple)
  | 6 => some u.split
  | 7 => some u.pitchA
  | 8 => some u.pitchB
  | 9 => some (wordOfNat u.frames.toNat)
  | _ => none

/-- The word of field `n` of a unit of a voice, `k` being the Partial number (R279). -/
def readUnit (wgLen : Nat) (sel : UnitSel) (k : Nat) (v : Voice) (n : Nat) : Option Word :=
  match sel with
  | .voice => readVoice v n
  | .mallet => readMallet v.mallet n
  | .malletFlt => readFilterOne v.mallet.flt n
  | .noise => readNoise v.noise n
  | .noiseFlt => readFilterOne v.noise.flt n
  | .noiseEnv => readEnvelope v.noise.env n
  | .res sd => readResonator (v.res sd) n
  | .post sd => readFilterFour (v.res sd).post n
  | .wg sd => readWaveguide wgLen (v.res sd).wg n
  | .part sd => readPartial k (bankGet (v.res sd).parts k) n

/-! ### Field tables: writing (R36, R280)

Each function gives the unit with one register written, the word legalised by the register's type;
`none` if the unit has no such field or it is read-only. -/

/-- Envelope fields 0 to 15 (R25). -/
def writeEnvelope (u : Envelope) (w : Word) : Nat → Option Envelope
  | 0 => some { u with state := opEnvState w }
  | 1 => some { u with env := w }
  | 2 => some { u with scale := w }
  | 3 => some { u with att := w }
  | 4 => some { u with dec := w }
  | 5 => some { u with sus := w }
  | 6 => some { u with rel := w }
  | 7 => some { u with ta := w }
  | 8 => some { u with td := w }
  | 9 => some { u with tr := w }
  | 10 => some { u with ab := w }
  | 11 => some { u with ac := w }
  | 12 => some { u with db := w }
  | 13 => some { u with dc := w }
  | 14 => some { u with rb := w }
  | 15 => some { u with rc := w }
  | _ => none

/-- Filter coefficient fields 0 to 4 (R26). -/
def writeCoef {α : Type} (u : BiquadFilter α) (w : Word) : Nat → Option (BiquadFilter α)
  | 0 => some { u with a1 := w }
  | 1 => some { u with a2 := w }
  | 2 => some { u with b0 := w }
  | 3 => some { u with b1 := w }
  | 4 => some { u with b2 := w }
  | _ => none

/-- Filter history `h` = 0 .. 5 changed by `f` (R26). -/
def writeHist {α : Type} (u : BiquadFilter α) (f : α → α) : Nat → Option (BiquadFilter α)
  | 0 => some { u with x0 := f u.x0 }
  | 1 => some { u with x1 := f u.x1 }
  | 2 => some { u with x2 := f u.x2 }
  | 3 => some { u with y0 := f u.y0 }
  | 4 => some { u with y1 := f u.y1 }
  | 5 => some { u with y2 := f u.y2 }
  | _ => none

/-- Fields of a one-lane Filter (R26). -/
def writeFilterOne (u : BiquadFilter Fx) (w : Word) (n : Nat) : Option (BiquadFilter Fx) :=
  if n < 8 then writeCoef u w n
  else if (n - 8) % 4 = 0 then writeHist u (fun _ => w) ((n - 8) / 4)
  else none

/-- Fields of a four-lane Filter (R26). -/
def writeFilterFour (u : BiquadFilter V4) (w : Word) (n : Nat) : Option (BiquadFilter V4) :=
  if n < 8 then writeCoef u w n
  else writeHist u (fun x => x.setLane ((n - 8) % 4) w) ((n - 8) / 4)

/-- Mallet fields 0 to 2 (R27). -/
def writeMallet (u : Mallet) (w : Word) : Nat → Option Mallet
  | 0 => some { u with impulse := w }
  | 1 => some { u with env := w }
  | 2 => some { u with elapsed := legalCounter w }
  | _ => none

/-- Noise fields 0 to 7 (R28). -/
def writeNoise (u : Noise) (w : Word) : Nat → Option Noise
  | 0 => some { u with vel := w }
  | 1 => some { u with freq := w }
  | 2 => some { u with q := w }
  | 3 => some { u with mode := opFMode w }
  | 4 => some { u with velFreq := w }
  | 5 => some { u with velQ := w }
  | 6 => some { u with filterActive := opBool w }
  | 7 => some { u with srate := w }
  | _ => none

/-- Partial history `h` = 0 .. 3 with lane `l` replaced (R29). -/
def writePartialHist (u : Partial) (l : Nat) (w : Word) : Nat → Option Partial
  | 0 => some { u with x1 := u.x1.setLane l w }
  | 1 => some { u with x2 := u.x2.setLane l w }
  | 2 => some { u with y1 := u.y1.setLane l w }
  | 3 => some { u with y2 := u.y2.setLane l w }
  | _ => none

/-- Partial fields; field 0 is read-only (R29, R36). -/
def writePartial (u : Partial) (w : Word) : Nat → Option Partial
  | 0 => none
  | 1 => some { u with decay := w }
  | 2 => some { u with damp := w }
  | 3 => some { u with tone := w }
  | 4 => some { u with hit := w }
  | 5 => some { u with rel := w }
  | 6 => some { u with inharm := w }
  | 7 => some { u with velDecay := w }
  | 8 => some { u with velHit := w }
  | 9 => some { u with velInharm := w }
  | 10 => some { u with srate := w }
  | 11 => some { u with a0 := w }
  | 12 => some { u with a1 := w }
  | 13 => some { u with a2 := w }
  | 14 => some { u with b0 := w }
  | 15 => some { u with b2 := w }
  | n => writePartialHist u ((n - 16) % 4) w ((n - 16) / 4)

/-- Waveguide fields (R30, R36). -/
def writeWaveguide (wgLen : Nat) (u : Waveguide) (w : Word) (n : Nat) : Option Waveguide :=
  match n with
  | 0 => some { u with isClosed := opBool w }
  | 1 => some { u with srate := w }
  | 2 => some { u with decay := w }
  | 3 => some { u with radius := u.radius.setLane 0 w }
  | 4 => some { u with radius := u.radius.setLane 1 w }
  | 5 => some { u with radius := u.radius.setLane 2 w }
  | 6 => some { u with radius := u.radius.setLane 3 w }
  | 7 => some { u with rel := w }
  | 8 => some { u with velDecay := w }
  | 9 => some { u with readPtr := legalPtr wgLen w }
  | 10 => some { u with writePtr := legalPtr wgLen w }
  | 11 => some { u with tubeDecay := w }
  | 12 => some { u with tlen := legalTlen wgLen w }
  | 13 => some { u with yPrev := u.yPrev.setLane 0 w }
  | 14 => some { u with yPrev := u.yPrev.setLane 1 w }
  | 15 => some { u with yPrev := u.yPrev.setLane 2 w }
  | 16 => some { u with yPrev := u.yPrev.setLane 3 w }
  | n =>
    if wgBufBase ≤ n ∧ (n - wgBufBase) / 4 < wgLen then
      some { u with buf := u.buf.write (n - wgBufBase) w }
    else none

/-- Resonator fields (R31, R36). -/
def writeResonator (u : Resonator) (w : Word) : Nat → Option Resonator
  | 0 => some { u with on := opBool w }
  | 1 => some { u with model := legalModel w }
  | 2 => some { u with npartials := legalNPartials w }
  | 3 => some { u with decay := w }
  | 4 => some { u with damp := w }
  | 5 => some { u with tone := w }
  | 6 => some { u with hit := w }
  | 7 => some { u with rel := w }
  | 8 => some { u with inharm := w }
  | 9 => some { u with cut := w }
  | 10 => some { u with radius := u.radius.setLane 0 w }
  | 11 => some { u with radius := u.radius.setLane 1 w }
  | 12 => some { u with radius := u.radius.setLane 2 w }
  | 13 => some { u with radius := u.radius.setLane 3 w }
  | 14 => some { u with velDecay := w }
  | 15 => some { u with velHit := w }
  | 16 => some { u with velInharm := w }
  | 17 => some { u with srate := w }
  | 18 => some { u with silence := legalCounter w }
  | 19 => some { u with active := opBool w }
  | _ => none

/-- Voice fields (R32, R36). -/
def writeVoice (u : Voice) (w : Word) : Nat → Option Voice
  | 0 => some { u with note := legalNote w }
  | 1 => some { u with freq := w }
  | 2 => some { u with vel := w }
  | 3 => some { u with isPressed := opBool w }
  | 4 => some { u with isRelease := opBool w }
  | 5 => some { u with couple := opBool w }
  | 6 => some { u with split := w }
  | 7 => some { u with pitchA := w }
  | 8 => some { u with pitchB := w }
  | 9 => some { u with frames := legalCounter w }
  | _ => none

/-- The voice with field `n` of one of its units written, `k` being the Partial number (R280). -/
def writeUnit (wgLen : Nat) (sel : UnitSel) (k : Nat) (v : Voice) (w : Word) (n : Nat) :
    Option Voice :=
  match sel with
  | .voice => writeVoice v w n
  | .mallet => (writeMallet v.mallet w n).map v.setMallet
  | .malletFlt => (writeFilterOne v.mallet.flt w n).map v.setMalletFlt
  | .noise => (writeNoise v.noise w n).map v.setNoise
  | .noiseFlt => (writeFilterOne v.noise.flt w n).map v.setNoiseFlt
  | .noiseEnv => (writeEnvelope v.noise.env w n).map v.setEnv
  | .res sd => (writeResonator (v.res sd) w n).map (v.setRes sd)
  | .post sd => (writeFilterFour (v.res sd).post w n).map (v.setPost sd)
  | .wg sd => (writeWaveguide wgLen (v.res sd).wg w n).map (v.setWg sd)
  | .part sd => (writePartial (bankGet (v.res sd).parts k) w n).map (v.setPart sd k)

/-! ### Global registers (R24) -/

/-- `G[k]`; `none` for a reserved index (R24). -/
def readGlobal (g : Globals) (k : Nat) : Option Fx :=
  match k with
  | 0 => some g.srate
  | 1 => some g.malletFreq
  | 2 => some g.malletMix
  | 3 => some g.malletRes
  | 4 => some g.noiseMix
  | 5 => some g.noiseRes
  | 6 => some g.gain
  | _ => none

/-- The globals with `G[k]` written; `none` for a reserved index (R24). -/
def writeGlobal (g : Globals) (k : Nat) (x : Fx) : Option Globals :=
  match k with
  | 0 => some { g with srate := x }
  | 1 => some { g with malletFreq := x }
  | 2 => some { g with malletMix := x }
  | 3 => some { g with malletRes := x }
  | 4 => some { g with noiseMix := x }
  | 5 => some { g with noiseRes := x }
  | 6 => some { g with gain := x }
  | _ => none

/-- An index operand of `MDL.WR` or `MDL.RD`: rejected, not clamped, outside 0 .. 63 (R283). -/
def mdlIndex (w : Word) : Option Nat :=
  if sint w < 0 ∨ 63 < sint w then none else some (sint w).toNat

/-! ### Commands -/

/-- `NOP` (R275). -/
def execNop (s : State) : Result := complete [] s

/-- The architectural state at its reset value; the number of voices, the parameters and the ports
stay (R276, R320). -/
def resetUnits (s : State) : State :=
  { s with globals := .reset, voices := List.replicate s.nv .reset, models := [] }

/-- `SYS.RESET` (R276): words waiting on the ports are not state and stay. -/
def execSysReset (s : State) : Result := complete [] (resetUnits s)

/-- `CFG.WR` (R277). -/
def execCfgWr (k : BitVec 8) (value : Word) (s : State) : Result :=
  match writeGlobal s.globals k.toNat value with
  | none => raiseError .index s
  | some g => complete [] { s with globals := g }

/-- `CFG.RD` (R278). -/
def execCfgRd (k : BitVec 8) (s : State) : Result :=
  match readGlobal s.globals k.toNat with
  | none => raiseError .index s
  | some x => complete [x] s

/-- `ST.RD` (R279). -/
def execStRd (t : Target) (field : Word) (s : State) : Result :=
  match checkTarget unitOfCode s.nv t with
  | .error e => raiseError e s
  | .ok sel =>
    match (opField field).bind
        (readUnit s.params.wgLen sel t.k.toNat (voiceAt s.voices t.v.toNat)) with
    | none => raiseError .field s
    | some w => complete [w] s

/-- `ST.WR` (R280): exactly one register changes, and nothing is recomputed. -/
def execStWr (t : Target) (field value : Word) (s : State) : Result :=
  match checkTarget unitOfCode s.nv t with
  | .error e => raiseError e s
  | .ok sel =>
    match (opField field).bind
        (writeUnit s.params.wgLen sel t.k.toNat (voiceAt s.voices t.v.toNat) value) with
    | none => raiseError .field s
    | some v => complete [] (setVoice t.v.toNat v s)

/-- `sys_flush` (R281). -/
def sysFlush (s : State) : State := { s with voices := s.voices.map voiClear }

/-- `SYS.SUSPEND` (R281). -/
def execSysSuspend (s : State) : Result := complete [] (sysFlush s)

/-- `SYS.RESUME` (R282). -/
def execSysResume (s : State) : Result := complete [] (sysFlush s)

/-- `MDL.WR` (R283). -/
def execMdlWr (u : BitVec 8) (m e value : Word) (s : State) : Result :=
  match sideOfCode u with
  | none => raiseError .unit s
  | some sd =>
    match mdlIndex m, mdlIndex e with
    | some mi, some ei => complete [] { s with models := mdlWrite s.models sd mi ei value }
    | _, _ => raiseError .index s

/-- `MDL.RD` (R284). -/
def execMdlRd (u : BitVec 8) (m e : Word) (s : State) : Result :=
  match sideOfCode u with
  | none => raiseError .unit s
  | some sd =>
    match mdlIndex m, mdlIndex e with
    | some mi, some ei => complete [mdlRead s.models sd mi ei] s
    | _, _ => raiseError .index s

end Sys2Proof.Machine
end

