-- ==== Sys2Proof/Machine/Dispatch.lean ====
section
/-! DEFINITION. The dispatch: one arm per constructor of `Instr`, each one call of the command's
meaning. -/

namespace Sys2Proof.Machine

/-- The outcome of a command on a state in which its own words have been taken from the command
port. -/
def exec (i : Instr) (s : State) : Host.Outcome State Fault Refusal :=
  match i with
  | .nop => Sys2Proof.Machine.execNop s
  | .sysReset => Sys2Proof.Machine.execSysReset s
  | .cfgWr k value => Sys2Proof.Machine.execCfgWr k value s
  | .cfgRd k => Sys2Proof.Machine.execCfgRd k s
  | .stRd t field => Sys2Proof.Machine.execStRd t field s
  | .stWr t field value => Sys2Proof.Machine.execStWr t field value s
  | .sysSuspend => Sys2Proof.Machine.execSysSuspend s
  | .sysResume => Sys2Proof.Machine.execSysResume s
  | .mdlWr u m e value => Sys2Proof.Machine.execMdlWr u m e value s
  | .mdlRd u m e => Sys2Proof.Machine.execMdlRd u m e s
  | .envInit t srate attackMs decayMs sustainDb releaseMs tAtt tDec tRel => Sys2Proof.Machine.execEnvInit t srate attackMs decayMs sustainDb releaseMs tAtt tDec tRel s
  | .envAtk t scale => Sys2Proof.Machine.execEnvAtk t scale s
  | .envDec t => Sys2Proof.Machine.execEnvDec t s
  | .envSus t => Sys2Proof.Machine.execEnvSus t s
  | .envRel t => Sys2Proof.Machine.execEnvRel t s
  | .envProc t => Sys2Proof.Machine.execEnvProc t s
  | .envRst t => Sys2Proof.Machine.execEnvRst t s
  | .fltLp t srate freq q => Sys2Proof.Machine.execFltLp t srate freq q s
  | .fltBp t srate freq q => Sys2Proof.Machine.execFltBp t srate freq q s
  | .fltHp t srate freq q => Sys2Proof.Machine.execFltHp t srate freq q s
  | .fltDf1 t in0 in1 in2 in3 => Sys2Proof.Machine.execFltDf1 t in0 in1 in2 in3 s
  | .fltClr t in0 in1 in2 in3 => Sys2Proof.Machine.execFltClr t in0 in1 in2 in3 s
  | .fltRst t => Sys2Proof.Machine.execFltRst t s
  | .mltTrig t srate freq => Sys2Proof.Machine.execMltTrig t srate freq s
  | .mltProc t => Sys2Proof.Machine.execMltProc t s
  | .mltClr t => Sys2Proof.Machine.execMltClr t s
  | .nseInit t srate mode freq q attackMs decayMs sustainDb releaseMs velFreq velQ => Sys2Proof.Machine.execNseInit t srate mode freq q attackMs decayMs sustainDb releaseMs velFreq velQ s
  | .nseAtk t vel => Sys2Proof.Machine.execNseAtk t vel s
  | .nseProc t => Sys2Proof.Machine.execNseProc t s
  | .nseRel t => Sys2Proof.Machine.execNseRel t s
  | .nseClr t => Sys2Proof.Machine.execNseClr t s
  | .prtUpd t f0 ratio ratioMax vel isRelease => Sys2Proof.Machine.execPrtUpd t f0 ratio ratioMax vel isRelease s
  | .prtProc t in0 in1 in2 in3 => Sys2Proof.Machine.execPrtProc t in0 in1 in2 in3 s
  | .prtClr t => Sys2Proof.Machine.execPrtClr t s
  | .wgdUpd t f0 vel isRelease => Sys2Proof.Machine.execWgdUpd t f0 vel isRelease s
  | .wgdProc t in0 in1 in2 in3 => Sys2Proof.Machine.execWgdProc t in0 in1 in2 in3 s
  | .wgdClr t => Sys2Proof.Machine.execWgdClr t s
  | .resSetp t srate on model npartials decay damp tone hit rel inharm cut radius0 radius1 radius2 radius3 velDecay velHit velInharm => Sys2Proof.Machine.execResSetp t srate on model npartials decay damp tone hit rel inharm cut radius0 radius1 radius2 radius3 velDecay velHit velInharm s
  | .resAct t => Sys2Proof.Machine.execResAct t s
  | .resUpd t freq vel isRelease model => Sys2Proof.Machine.execResUpd t freq vel isRelease model s
  | .resProc t in0 in1 in2 in3 => Sys2Proof.Machine.execResProc t in0 in1 in2 in3 s
  | .resClr t => Sys2Proof.Machine.execResClr t s
  | .voiTrig t srate note velocity malletFreq => Sys2Proof.Machine.execVoiTrig t srate note velocity malletFreq s
  | .voiRel t => Sys2Proof.Machine.execVoiRel t s
  | .voiPitch t coarseA coarseB fineA fineB => Sys2Proof.Machine.execVoiPitch t coarseA coarseB fineA fineB s
  | .voiUpd t => Sys2Proof.Machine.execVoiUpd t s
  | .voiClr t => Sys2Proof.Machine.execVoiClr t s
  | .poolNext => Sys2Proof.Machine.execPoolNext s
  | .noteOn note velocity => Sys2Proof.Machine.execNoteOn note velocity s
  | .noteOff note => Sys2Proof.Machine.execNoteOff note s
  | .render frameCount => Sys2Proof.Machine.execRender frameCount s

end Sys2Proof.Machine
end

