-- ==== Sys2Proof/Machine/Step.lean ====
section
/-! DEFINITION. One step of the engine: the next command is taken from the command port, whole, and
executed (spec/20_memory.md R66, R69). -/

namespace Sys2Proof.Machine

/-- The state with the words left on the command port replaced. -/
def State.withCmdIn (s : State) (ws : List Word) : State := { s with cmdIn := ws }

/-- One step: wait while a command's words have not all arrived (R69); answer a command that a
decode check rejects by its status (R86, R296); execute any other command (R66). -/
def step (s : State) : Host.Outcome State Fault Refusal :=
  match decode s.cmdIn with
  | .wait => .fault .commandWait
  | .reject e rest => raiseError e (s.withCmdIn rest)
  | .command i rest => exec i (s.withCmdIn rest)

/-- The state in which the host has put the instruction whose bits are `w` first on the command
port (log entry 2). -/
def State.withFetchWord (s : State) (nbits w : Nat) : State :=
  s.withCmdIn (portWords nbits w ++ s.cmdIn)

end Sys2Proof.Machine
end

