-- ==== Sys2Proof/Machine/RefNum.lean ====
section
/-! DEFINITION. The record `NUM` as a record, the properties it must have, and the reference
instantiation `REFNUM` as a predicate on such records (spec/40_arith.md R108 to R110;
spec/92_eei_decisions.md D3). The machine runs on the functions of Machine/Arith.lean; nothing here
is called by a command. -/

namespace Sys2Proof.Machine

/-- The record `NUM` (R108). -/
structure NumRecord where
  exp : Fx → Fx
  ln : Fx → Fx
  sin : Fx → Fx
  cos : Fx → Fx
  sqrt : Fx → Fx
  pow : Fx → Fx → Fx

/-- The record the commands run on. -/
def machineNum : NumRecord :=
  { exp := numExp, ln := numLn, sin := numSin, cos := numCos, sqrt := numSqrt, pow := numPow }

/-- Property P3 of R109: exact powers of two. -/
def HasExactPowers (num : NumRecord) : Prop :=
  ∀ k : Int, -64 ≤ k → k ≤ 62 →
    (num.pow (fxOfInt 2) (fxOfInt k)).toInt = 2 ^ (64 + k).toNat

/-- The five fixed values that D3 requires of every `NUM` (log entry 22). -/
def HasFixedValues (num : NumRecord) : Prop :=
  num.exp 0#128 = fxOne ∧ num.ln fxOne = 0#128 ∧ num.sin 0#128 = 0#128 ∧ num.cos 0#128 = fxOne ∧
    num.sqrt 0#128 = 0#128

/-- The two values at 1 that spec/44_partial.md R191 needs of every `NUM` (log entry 23). -/
def HasUnitValues (num : NumRecord) : Prop :=
  num.sqrt fxOne = fxOne ∧ num.pow fxOne 0#128 = fxOne

/-- `w` is `rn(r)` (R110): `r * 2^64` rounded to the nearest integer, a tie to the even one, and
saturated. -/
def IsRounded (r : ℝ) (w : Fx) : Prop :=
  ∃ i : Int, |r * 2 ^ 64 - i| ≤ 1 / 2 ∧ (|r * 2 ^ 64 - i| = 1 / 2 → i % 2 = 0) ∧ w = fxSat i

/-- A record is `REFNUM` (R110). -/
structure IsRefNum (num : NumRecord) : Prop where
  exp : ∀ x : Fx, IsRounded (Real.exp (x.toInt / 2 ^ 64)) (num.exp x)
  lnPos : ∀ x : Fx, 0 < x.toInt → IsRounded (Real.log (x.toInt / 2 ^ 64)) (num.ln x)
  lnOther : ∀ x : Fx, x.toInt ≤ 0 → num.ln x = fxMin127
  sin : ∀ x : Fx, IsRounded (Real.sin (x.toInt / 2 ^ 64)) (num.sin x)
  cos : ∀ x : Fx, IsRounded (Real.cos (x.toInt / 2 ^ 64)) (num.cos x)
  sqrtNonneg : ∀ x : Fx, 0 ≤ x.toInt → IsRounded (Real.sqrt (x.toInt / 2 ^ 64)) (num.sqrt x)
  sqrtNeg : ∀ x : Fx, x.toInt < 0 → num.sqrt x = 0#128
  powNeg : ∀ x y : Fx, x.toInt < 0 → num.pow x y = 0#128
  powZeroPos : ∀ y : Fx, 0 < y.toInt → num.pow 0#128 y = 0#128
  powZeroZero : num.pow 0#128 0#128 = fxOne
  powZeroNeg : ∀ y : Fx, y.toInt < 0 → num.pow 0#128 y = fxMax127
  powPos : ∀ x y : Fx, 0 < x.toInt →
    IsRounded (Real.exp (y.toInt / 2 ^ 64 * Real.log (x.toInt / 2 ^ 64))) (num.pow x y)

end Sys2Proof.Machine
end

