-- ==== Sys2Proof/Safety.lean ====
section
/-! DEFINITION. The terms the statements use: when a state is one a run can reach, which unit a
command addresses and how many result words it has, the register space as `ST.RD` sees it with the
type and the reset value of each register, and how many words a `RENDER` draws. -/

namespace Sys2Proof.Machine

/-! ### The invariant -/

/-- The OPEN structural parameters are legal: `WG_LEN` is 2 .. 2^31 (spec/00_scope.md R6). -/
abbrev ParamsLegal (p : Params) : Prop := 2 ≤ p.wgLen ∧ p.wgLen ≤ 2147483648

/-- The pointers of a Waveguide lie below `WG_LEN` (spec/10_state.md R37 (c)), `tlen` is at most
`WG_LEN`, and the delay buffer is in canonical form and holds `WG_LEN` entries of four words. -/
abbrev WaveguideInv (wgLen : Nat) (w : Waveguide) : Prop :=
  w.readPtr.toNat < wgLen ∧ w.writePtr.toNat < wgLen ∧ w.tlen.toNat ≤ wgLen ∧
    w.buf.wf = true ∧ w.buf.below (4 * wgLen) = true

/-- The model index is 0 .. 63 and the partial count 0 .. 64 (R31, R36). -/
abbrev ResonatorInv (wgLen : Nat) (r : Resonator) : Prop :=
  r.model.toNat ≤ 63 ∧ r.npartials.toNat ≤ 64 ∧ WaveguideInv wgLen r.wg

/-- Both Resonators of a voice keep their invariant. -/
abbrev VoiceInv (wgLen : Nat) (v : Voice) : Prop :=
  ResonatorInv wgLen v.resA ∧ ResonatorInv wgLen v.resB

/-- The invariant of the machine: the parameters are legal, `NV` is 1 .. 256 (R6), the model memory
is in canonical form and has 2 x 64 x 64 words (R35), and every voice keeps its invariant. -/
abbrev StateInv (s : State) : Prop :=
  ParamsLegal s.params ∧ 1 ≤ s.nv ∧ s.nv ≤ 256 ∧ s.models.wf = true ∧
    s.models.below 8192 = true ∧ ∀ v ∈ s.voices, VoiceInv s.params.wgLen v

/-! ### What a command addresses and answers -/

/-- The target and the legal selectors of a row of spec/30_encoding.md R84 that addresses a unit of
a voice; `none` for a row with units `-` or a side. -/
def unitTarget : Instr → Option (Target × List (BitVec 8))
  | .nop | .sysReset | .sysSuspend | .sysResume => none
  | .poolNext | .noteOn _ _ | .noteOff _ | .render _ => none
  | .cfgWr _ _ | .cfgRd _ | .mdlWr _ _ _ _ | .mdlRd _ _ _ => none
  | .stRd t _ | .stWr t _ _ => some (t, allUnits)
  | .envInit t _ _ _ _ _ _ _ _ | .envAtk t _ | .envDec t | .envSus t | .envRel t
  | .envProc t | .envRst t => some (t, [0x05#8])
  | .fltLp t _ _ _ | .fltBp t _ _ _ | .fltHp t _ _ _ | .fltDf1 t _ _ _ _
  | .fltClr t _ _ _ _ | .fltRst t => some (t, filterUnits)
  | .mltTrig t _ _ | .mltProc t | .mltClr t => some (t, [0x01#8])
  | .nseInit t _ _ _ _ _ _ _ _ _ _ | .nseAtk t _ | .nseProc t | .nseRel t
  | .nseClr t => some (t, [0x03#8])
  | .prtUpd t _ _ _ _ _ | .prtProc t _ _ _ _ | .prtClr t => some (t, [0x13#8, 0x23#8])
  | .wgdUpd t _ _ _ | .wgdProc t _ _ _ _ | .wgdClr t => some (t, [0x12#8, 0x22#8])
  | .resSetp t _ _ _ _ _ _ _ _ _ _ _ _ _ _ _ _ _ _ | .resAct t | .resUpd t _ _ _ _
  | .resProc t _ _ _ _ | .resClr t => some (t, [0x10#8, 0x20#8])
  | .voiTrig t _ _ _ _ | .voiRel t | .voiPitch t _ _ _ _ | .voiUpd t
  | .voiClr t => some (t, [0x00#8])

/-- `n_res` of a command (R81, R84): fixed by the opcode, but for `RENDER`, which has four words for
each frame of its clamped count. -/
def resultCount : Instr → Nat
  | .cfgRd _ | .stRd _ _ | .mdlRd _ _ _ | .mltProc _ | .nseProc _ => 1
  | .poolNext | .noteOn _ _ | .noteOff _ => 1
  | .envProc _ => 2
  | .fltDf1 _ _ _ _ _ | .prtProc _ _ _ _ _ | .wgdProc _ _ _ _ _ | .resProc _ _ _ _ _ => 4
  | .render frameCount => 4 * (clampInt frameCount.toInt 0 4294967295).toNat
  | .nop | .sysReset | .cfgWr _ _ | .stWr _ _ _ | .sysSuspend | .sysResume | .mdlWr _ _ _ _ => 0
  | .envInit _ _ _ _ _ _ _ _ _ | .envAtk _ _ | .envDec _ | .envSus _ | .envRel _
  | .envRst _ => 0
  | .fltLp _ _ _ _ | .fltBp _ _ _ _ | .fltHp _ _ _ _ | .fltClr _ _ _ _ _ | .fltRst _ => 0
  | .mltTrig _ _ _ | .mltClr _ => 0
  | .nseInit _ _ _ _ _ _ _ _ _ _ _ | .nseAtk _ _ | .nseRel _ | .nseClr _ => 0
  | .prtUpd _ _ _ _ _ _ | .prtClr _ | .wgdUpd _ _ _ _ | .wgdClr _ => 0
  | .resSetp _ _ _ _ _ _ _ _ _ _ _ _ _ _ _ _ _ _ _ | .resAct _ | .resUpd _ _ _ _ _
  | .resClr _ => 0
  | .voiTrig _ _ _ _ _ | .voiRel _ | .voiPitch _ _ _ _ _ | .voiUpd _ | .voiClr _ => 0

/-! ### The unit a command addresses -/

/-- The voice that a target addresses. -/
abbrev voiceOf (s : State) (t : Target) : Voice := voiceAt s.voices t.v.toNat

/-- The state with the voice that a target addresses replaced. -/
abbrev withVoice (s : State) (t : Target) (v : Voice) : State := setVoice t.v.toNat v s

/-- The Partial that a target addresses in the Resonator of a side. -/
abbrev partialOf (s : State) (t : Target) (sd : Side) : Partial :=
  bankGet ((voiceOf s t).res sd).parts t.k.toNat

/-- The `U` code of the Resonator of a side (R82). -/
def resCode : Side → BitVec 8
  | .a => 0x10#8
  | .b => 0x20#8

/-- The `U` code of the post Filter of a side (R82). -/
def postCode : Side → BitVec 8
  | .a => 0x11#8
  | .b => 0x21#8

/-- The `U` code of the Waveguide of a side (R82). -/
def wgCode : Side → BitVec 8
  | .a => 0x12#8
  | .b => 0x22#8

/-- The `U` code of the Partials of a side (R82). -/
def partCode : Side → BitVec 8
  | .a => 0x13#8
  | .b => 0x23#8

/-- The `U` code of a Filter (R82). -/
def filterCode : FilterSel → BitVec 8
  | .mallet => 0x02#8
  | .noise => 0x04#8
  | .post sd => postCode sd

/-- A Filter with its five coefficients replaced and its history kept. -/
def withCoefs {α : Type} (f : BiquadFilter α) (a1 a2 b0 b1 b2 : Fx) : BiquadFilter α :=
  { f with a1 := a1, a2 := a2, b0 := b0, b1 := b1, b2 := b2 }

/-- A voice with the five coefficients of one of its Filters replaced. -/
def withFilterCoefs (v : Voice) (sel : FilterSel) (a1 a2 b0 b1 b2 : Fx) : Voice :=
  match sel with
  | .mallet => v.setMalletFlt (withCoefs v.mallet.flt a1 a2 b0 b1 b2)
  | .noise => v.setNoiseFlt (withCoefs v.noise.flt a1 a2 b0 b1 b2)
  | .post sd => v.setPost sd (withCoefs (v.res sd).post a1 a2 b0 b1 b2)

/-! ### The register space -/

/-- The word of register `f` of a unit of voice `v`, `k` being the Partial number: the register
space of spec/10_state.md R35, as `ST.RD` reads it. -/
def registerWord (s : State) (v : Nat) (sel : UnitSel) (k f : Nat) : Option Word :=
  readUnit s.params.wgLen sel k (voiceAt s.voices v) f

/-- Whether a unit has a register `f`: the ranges of spec/49_system.md R279. -/
def fieldExists (wgLen : Nat) (sel : UnitSel) (f : Nat) : Prop :=
  match sel with
  | .voice => f ≤ 9
  | .mallet => f ≤ 2
  | .malletFlt | .noiseFlt => f ≤ 4 ∨ (8 ≤ f ∧ f ≤ 28 ∧ f % 4 = 0)
  | .noise => f ≤ 7
  | .noiseEnv => f ≤ 15
  | .res _ => f ≤ 19
  | .post _ => f ≤ 4 ∨ (8 ≤ f ∧ f ≤ 31)
  | .wg _ => f ≤ 16 ∨ (0x10000 ≤ f ∧ f < 0x10000 + 4 * wgLen)
  | .part _ => f ≤ 31

/-- The types of the registers, by what a write stores (R36). -/
inductive RegType where
  | fx
  | bool
  | envState
  | fmode
  | note
  | model
  | npartials
  | counter
  | pointer
  | tubeLength
deriving DecidableEq, Repr

/-- The type of register `f` of a unit: `FX` but for the registers the tables of R25 to R32 give
another one. -/
def registerType (sel : UnitSel) (f : Nat) : RegType :=
  match sel, f with
  | .noiseEnv, 0 => .envState
  | .mallet, 2 => .counter
  | .noise, 3 => .fmode
  | .noise, 6 => .bool
  | .wg _, 0 => .bool
  | .wg _, 9 | .wg _, 10 => .pointer
  | .wg _, 12 => .tubeLength
  | .res _, 0 | .res _, 19 => .bool
  | .res _, 1 => .model
  | .res _, 2 => .npartials
  | .res _, 18 => .counter
  | .voice, 0 => .note
  | .voice, 3 | .voice, 4 | .voice, 5 => .bool
  | .voice, 9 => .counter
  | _, _ => .fx

/-- An integer as a word. -/
def intWord (i : Int) : Word := BitVec.ofInt 128 i

/-- The word that a register of a type holds after `w` is written to it: the table of R36. -/
def legalisedWord (wgLen : Nat) (ty : RegType) (w : Word) : Word :=
  match ty with
  | .fx => w
  | .bool => if w = 0#128 then 0#128 else 1#128
  | .envState => if 0 ≤ w.toInt ∧ w.toInt ≤ 4 then w else 0#128
  | .fmode => if 0 ≤ w.toInt ∧ w.toInt ≤ 2 then w else 0#128
  | .note => intWord (clampInt w.toInt 0 127)
  | .model => intWord (clampInt w.toInt 0 63)
  | .npartials => intWord (clampInt w.toInt 0 64)
  | .counter => intWord (clampInt w.toInt 0 4294967295)
  | .pointer => intWord (clampInt w.toInt 0 ((wgLen : Int) - 1))
  | .tubeLength => intWord (clampInt w.toInt 1 wgLen)

/-- The reset value of register `f` of a unit (R25 to R32), `k` being the Partial number. -/
def registerReset (sel : UnitSel) (k f : Nat) : Word :=
  match sel, f with
  | .part _, 0 => BitVec.ofNat 128 (k + 1)
  | .part _, 11 => 0x10000000000000000#128
  | .voice, 7 | .voice, 8 => 0x10000000000000000#128
  | .voice, 9 => 0xFFFFFFFF#128
  | _, _ => 0#128

/-! ### RNGIN -/

/-- Whether `nse_process` draws a word: the Envelope is not `Off` (spec/43_mallet_noise.md R176). -/
def drawsWord (e : Envelope) : Bool := decide (e.state ≠ .off)

/-- How many words `n` frames draw from `RNGIN` when the Noise Envelopes of the voices are `es`
(spec/48_pool_render.md R264). -/
def rngNeeded : Nat → List Envelope → Nat
  | 0, _ => 0
  | n + 1, es => es.countP drawsWord + rngNeeded n (es.map envProcess)

/-- The Noise Envelopes of the voices of a state, in rising voice index. -/
def noiseEnvelopes (s : State) : List Envelope := s.voices.map fun v => v.noise.env

end Sys2Proof.Machine
end

