-- ==== Sys2Proof/Certificates/Slice0/Obligations.lean ====
section
/-! DEFINITION. The statements for the provers. Each docstring names the rule of spec/ a statement
formalises; "model's choice" marks a clause that rests on a log entry of notes/assumptions. A status
word 0 is `OK`, 1 to 6 are the error codes of spec/60_exceptions.md R295. -/

section

open Sys2Proof Sys2Proof.Machine

/-! ### Encoding -/

/-- Decoding the words of a well-formed command gives the command, with every operand at every
value, and leaves the words after it (spec/30_encoding.md R80, R84, R88). -/
def Obligations.DecodeEncodeAgree : Prop :=
  ∀ (nv : Nat) (i : Instr) (rest : List Word), i.wf nv = true →
    decode (encode i ++ rest) = .command i rest

/-- Whatever the decoder accepts is the encoding of the command it gives: no header bit and no
operand word is dropped (R80, R84, R86). -/
def Obligations.EncodeDecodeAgree : Prop :=
  ∀ (ws : List Word) (i : Instr) (rest : List Word),
    decode ws = .command i rest → ws = encode i ++ rest

/-- How the port is framed (R87) and the checks 1 to 3 of R297: an unknown opcode takes its header
alone; a known one takes its `n_op` operand words whatever a later check says. While operand words
are missing a known opcode waits (R69); that it waits also when its header would fail check 2 or 3
is the model's choice, log entry 9. -/
def Obligations.PortFraming : Prop :=
  ∀ (h : Word) (rest : List Word),
    (opcodeRow (headerOpc h).toNat = none → decode (h :: rest) = .reject .opcode rest) ∧
    ∀ (kind : RowKind) (n : Nat), opcodeRow (headerOpc h).toNat = some (kind, n) →
      (rest.length < n → decode (h :: rest) = .wait) ∧
      (n ≤ rest.length →
        headerRsv h ≠ 0#96 ∨ reservedFieldSet kind (headerTarget h) = true →
        decode (h :: rest) = .reject .reserved (rest.drop n)) ∧
      (n ≤ rest.length → headerRsv h = 0#96 → reservedFieldSet kind (headerTarget h) = false →
        ∃ i, decode (h :: rest) = .command i (rest.drop n))

/-- The opcode map: the 51 opcodes with their `n_op` (R84), and no other (R86). -/
def Obligations.OpcodeTableRows : Prop :=
  (∀ p ∈ [(0x00, 0), (0x01, 0), (0x02, 1), (0x03, 0), (0x04, 1), (0x05, 2), (0x06, 0), (0x07, 0),
      (0x08, 3), (0x09, 2), (0x10, 8), (0x11, 1), (0x12, 0), (0x13, 0), (0x14, 0), (0x15, 0),
      (0x16, 0), (0x20, 3), (0x21, 3), (0x22, 3), (0x23, 4), (0x24, 4), (0x25, 0), (0x30, 2),
      (0x31, 0), (0x32, 0), (0x40, 10), (0x41, 1), (0x42, 0), (0x43, 0), (0x44, 0), (0x50, 5),
      (0x51, 4), (0x52, 0), (0x60, 3), (0x61, 4), (0x62, 0), (0x70, 18), (0x71, 0), (0x72, 67),
      (0x73, 4), (0x74, 0), (0x80, 4), (0x81, 0), (0x82, 4), (0x83, 0), (0x84, 0), (0x90, 0),
      (0x91, 2), (0x92, 1), (0x93, 1)], (opcodeRow p.1).map (fun r => r.2) = some p.2) ∧
    ∀ n < 256, (0x0A ≤ n ∧ n ≤ 0x0F) ∨ (0x17 ≤ n ∧ n ≤ 0x1F) ∨ (0x26 ≤ n ∧ n ≤ 0x2F) ∨
      (0x33 ≤ n ∧ n ≤ 0x3F) ∨ (0x45 ≤ n ∧ n ≤ 0x4F) ∨ (0x53 ≤ n ∧ n ≤ 0x5F) ∨
      (0x63 ≤ n ∧ n ≤ 0x6F) ∨ (0x75 ≤ n ∧ n ≤ 0x7F) ∨ (0x85 ≤ n ∧ n ≤ 0x8F) ∨ 0x94 ≤ n →
      opcodeRow n = none

/-- Words written out from the spec's own examples decode to the commands they stand for
(R84, R89; spec/43_mallet_noise.md R168, R178; spec/44_partial.md R189; spec/46_resonator.md
R219). -/
def Obligations.HandWrittenWordsDecode : Prop :=
  decode [0x00000000000000000000000012010500#128] = .command (.envDec ⟨1, 5, 0⟩) [] ∧
  decode [0x00000000000000000000000025032100#128] = .command (.fltRst ⟨3, 0x21, 0⟩) [] ∧
  decode [0x00000000000000000000000032020100#128] = .command (.mltClr ⟨2, 1, 0⟩) [] ∧
  decode [0x00000000000000000000000044050300#128] = .command (.nseClr ⟨5, 3, 0⟩) [] ∧
  decode [0x0000000000000000000000005200233F#128] = .command (.prtClr ⟨0, 0x23, 63⟩) [] ∧
  decode [0x00000000000000000000000062012200#128] = .command (.wgdClr ⟨1, 0x22, 0⟩) [] ∧
  decode [0x00000000000000000000000071022000#128] = .command (.resAct ⟨2, 0x20, 0⟩) [] ∧
  decode [0x00000000000000000000000081030000#128] = .command (.voiRel ⟨3, 0, 0⟩) [] ∧
  decode [0x00000000000000000000000092000000#128, 69#128] = .command (.noteOff 69) [] ∧
  decode [0x00000000000000000000000002000006#128, 0x8000000000000000#128] =
    .command (.cfgWr 6 0x8000000000000000) []

/-! ### Steps, waits and errors -/

/-- A step takes the next command from the port, whole, and runs it on the state without its words;
a header that a decode check rejects is answered by its status and changes nothing else
(spec/20_memory.md R66, R69; spec/60_exceptions.md R296). -/
def Obligations.StepRunsDecodedCommand : Prop :=
  ∀ (s : State) (rest : List Word),
    (∀ i, decode s.cmdIn = .command i rest → step s = exec i { s with cmdIn := rest }) ∧
    (∀ e, decode s.cmdIn = .reject e rest →
      step s = .next { s with cmdIn := rest, respOut := s.respOut ++ [statusWord e] })

/-- A step waits on the command port exactly when the words of the next command have not all
arrived (R69). That the wait is the fault `commandWait` is the model's choice, log entry 3; that a
known opcode whose header would fail check 2 or 3 waits for its operand words too is the model's
choice, log entry 9. -/
def Obligations.StepWaitsForMissingWords : Prop :=
  ∀ s : State, step s = .fault .commandWait ↔
    s.cmdIn = [] ∨ ∃ h rest kind n, s.cmdIn = h :: rest ∧
      opcodeRow (headerOpc h).toNat = some (kind, n) ∧ rest.length < n

/-- Nothing is refused, and only a command that draws from `RNGIN` can wait (R69, R70). -/
def Obligations.OnlyDrawsWait : Prop :=
  ∀ (i : Instr) (s : State),
    (∀ r, exec i s ≠ .refused r) ∧
    ∀ f, exec i s = .fault f →
      f = .rngWait ∧ ((∃ t, i = .nseProc t) ∨ ∃ n, i = .render n)

/-- Steps 4 to 6 of R297 for every row that addresses a unit of a voice, in their order: `E_VOICE`,
`E_UNIT`, `E_INDEX`, `E_RESERVED`; nothing but the status word changes (R296). That R297 and not the
list of spec/30_encoding.md R86 orders `E_RESERVED` is the model's choice, log entry 25. -/
def Obligations.UnitCommandChecksInOrder : Prop :=
  ∀ (i : Instr) (s : State) (t : Target) (us : List (BitVec 8)), unitTarget i = some (t, us) →
    (s.nv ≤ t.v.toNat → exec i s = .next { s with respOut := s.respOut ++ [3#128] }) ∧
    (t.v.toNat < s.nv → t.u ∉ us →
      exec i s = .next { s with respOut := s.respOut ++ [4#128] }) ∧
    (t.v.toNat < s.nv → t.u ∈ us → t.u = 0x13#8 ∨ t.u = 0x23#8 → 63 < t.k.toNat →
      exec i s = .next { s with respOut := s.respOut ++ [5#128] }) ∧
    (t.v.toNat < s.nv → t.u ∈ us → ¬(t.u = 0x13#8 ∨ t.u = 0x23#8) → t.k ≠ 0#8 →
      exec i s = .next { s with respOut := s.respOut ++ [2#128] })

/-- The response of every command: a status word, then `n_res` result words if it is `OK` (R81,
R84); an error writes no state, draws no `RNGIN` word and emits no result word (R296). -/
def Obligations.ResponseIsStatusThenResults : Prop :=
  ∀ (i : Instr) (s s' : State), exec i s = .next s' →
    ∃ (w : Word) (ws : List Word), s'.respOut = s.respOut ++ w :: ws ∧ w.toNat ≤ 6 ∧
      (w = 0#128 → ws.length = resultCount i) ∧
      (w ≠ 0#128 → ws = [] ∧ s' = { s with respOut := s.respOut ++ [w] })

/-! ### Whole-machine rules -/

/-- The invariant holds at reset (R320). `NV` and `WG_LEN` have their defaults there: model's
choice, log entry 7. -/
def Obligations.ResetMeetsStateInv : Prop := StateInv State.reset

/-- Every step keeps the invariant: both memories stay in canonical form and inside their address
ranges (R35), the pointers stay below `WG_LEN` (spec/10_state.md R37 (c)), model indices and
partial counts stay in range (R36). -/
def Obligations.EveryStepKeepsStateInv : Prop :=
  ∀ s s' : State, StateInv s → step s = .next s' → StateInv s'

/-- No step changes the OPEN parameters or the number of voices (R49, R75). That the parameters are
in the state is the model's choice, log entry 7. -/
def Obligations.ParametersAndPoolSizeFixed : Prop :=
  ∀ s s' : State, step s = .next s' → s'.params = s.params ∧ s'.nv = s.nv

/-- The global registers are written by `CFG.WR` and `SYS.RESET` alone, the model memory by `MDL.WR`
and `SYS.RESET` alone (R24, R35, R276). -/
def Obligations.GlobalsAndModelsHaveOneWriter : Prop :=
  ∀ (i : Instr) (s s' : State), exec i s = .next s' →
    ((∀ k value, i ≠ .cfgWr k value) → i ≠ .sysReset → s'.globals = s.globals) ∧
    ((∀ u m e value, i ≠ .mdlWr u m e value) → i ≠ .sysReset → s'.models = s.models)

/-- The frame of every command that addresses a unit: all state outside the voice it names is
unchanged, and so is `RNGIN` unless the command is `NSE.PROC` (R21, R296). -/
def Obligations.UnitCommandTouchesOneVoice : Prop :=
  ∀ (i : Instr) (s s' : State) (t : Target) (us : List (BitVec 8)),
    unitTarget i = some (t, us) → exec i s = .next s' →
    s'.globals = s.globals ∧ s'.models = s.models ∧ s'.params = s.params ∧
      s'.cmdIn = s.cmdIn ∧ (∀ j, j ≠ t.v.toNat → s'.voices[j]? = s.voices[j]?) ∧
      ((∀ t', i ≠ .nseProc t') → s'.rngIn = s.rngIn)

/-- The ports move forward only: `exec` leaves the command port alone, takes words only from the
front of `RNGIN`, and takes none but in `NSE.PROC` and `RENDER` (R47, R70). -/
def Obligations.PortsMoveForward : Prop :=
  ∀ (i : Instr) (s s' : State), exec i s = .next s' →
    s'.cmdIn = s.cmdIn ∧ ∃ drawn, s.rngIn = drawn ++ s'.rngIn ∧
      ((∀ t, i ≠ .nseProc t) → (∀ n, i ≠ .render n) → drawn = [])

/-! ### Reset and the system commands -/

/-- The reset values (R320, R321): every register of every unit as `ST.RD` would read it, the seven
globals, and both memories; and the defaults of the OPEN parameters (spec/00_scope.md R6, R7), the
identity for `COUPLE_DY` among them. That `State.reset` has the defaults is the model's choice, log
entry 7. -/
def Obligations.ResetRegisterValues : Prop :=
  (∀ (v : Nat) (sel : UnitSel) (k f : Nat) (w : Word), v < State.reset.nv →
    registerWord State.reset v sel k f = some w → w = registerReset sel k f) ∧
  [0, 1, 2, 3, 4, 5, 6].map (readGlobal State.reset.globals) =
    [some 0xBB800000000000000000#128, some 0#128, some 0#128, some 0#128, some 0#128, some 0#128,
      some 0x10000000000000000#128] ∧
  (∀ a, State.reset.models.read a = 0#128) ∧
  State.reset.nv = 8 ∧ State.reset.params.wgLen = 8192 ∧
  State.reset.params.silenceMode = .loudCounts ∧ State.reset.params.coupleThresh = fxOfInt 4 ∧
  ∀ split, voiCoupleDy State.reset.params split = split

/-- `NOP` answers `OK` and does nothing else (spec/49_system.md R275); `SYS.RESET` puts every
register, every delay-buffer entry and the model memory at their reset values and leaves the words
waiting on `RNGIN` (R276). That the words of the command port and the words emitted before stay is
the model's choice, log entry 15; that the number of voices and the parameters stay is the model's
choice, log entry 7. -/
def Obligations.NopAndSysReset : Prop :=
  ∀ s : State,
    exec .nop s = .next { s with respOut := s.respOut ++ [0#128] } ∧
    exec .sysReset s = .next
      { globals := Globals.reset, voices := List.replicate s.nv Voice.reset, models := [],
        params := s.params, cmdIn := s.cmdIn, rngIn := s.rngIn, respOut := s.respOut ++ [0#128] }

/-- `CFG.WR` and `CFG.RD` (R277, R278): register `k` = 0 .. 6 takes the word and no other register
changes; an index above 6 gives `E_INDEX`. -/
def Obligations.CfgWriteAndRead : Prop :=
  ∀ (s : State) (k : BitVec 8) (x : Word),
    (k.toNat ≤ 6 → ∃ g, exec (.cfgWr k x) s =
        .next { s with globals := g, respOut := s.respOut ++ [0#128] } ∧
      readGlobal g k.toNat = some x ∧
      ∀ j, j ≠ k.toNat → readGlobal g j = readGlobal s.globals j) ∧
    (k.toNat ≤ 6 → ∃ y, readGlobal s.globals k.toNat = some y ∧
      exec (.cfgRd k) s = .next { s with respOut := s.respOut ++ [0#128, y] }) ∧
    (6 < k.toNat → exec (.cfgWr k x) s = .next { s with respOut := s.respOut ++ [5#128] } ∧
      exec (.cfgRd k) s = .next { s with respOut := s.respOut ++ [5#128] })

/-- `ST.RD` (R279): a field the unit has is answered, with no state written; a negative id or one
the unit does not have gives `E_FIELD`. -/
def Obligations.StRdAnswersRegister : Prop :=
  ∀ (s : State) (t : Target) (field : Word) (sel : UnitSel), t.wf s.nv allUnits = true →
    unitOfCode t.u = some sel →
    (0 ≤ field.toInt → fieldExists s.params.wgLen sel field.toInt.toNat →
      ∃ w, registerWord s t.v.toNat sel t.k.toNat field.toInt.toNat = some w ∧
        exec (.stRd t field) s = .next { s with respOut := s.respOut ++ [0#128, w] }) ∧
    (field.toInt < 0 ∨ ¬fieldExists s.params.wgLen sel field.toInt.toNat →
      exec (.stRd t field) s = .next { s with respOut := s.respOut ++ [6#128] })

/-- `ST.WR` (R280) stores the word its register's type makes of the operand (R36), where the unit
has the field and it is not the read-only `k` of a Partial; else `E_FIELD`. -/
def Obligations.StWrStoresLegalisedWord : Prop :=
  ∀ (s : State) (t : Target) (field value : Word) (sel : UnitSel), StateInv s →
    t.wf s.nv allUnits = true → unitOfCode t.u = some sel →
    (0 ≤ field.toInt → fieldExists s.params.wgLen sel field.toInt.toNat →
      (∀ sd, sel = .part sd → field.toInt ≠ 0) →
      ∃ s', exec (.stWr t field value) s = .next s' ∧ s'.respOut = s.respOut ++ [0#128] ∧
        registerWord s' t.v.toNat sel t.k.toNat field.toInt.toNat =
          some (legalisedWord s.params.wgLen (registerType sel field.toInt.toNat) value)) ∧
    (field.toInt < 0 ∨ ¬fieldExists s.params.wgLen sel field.toInt.toNat ∨
        ((∃ sd, sel = .part sd) ∧ field.toInt = 0) →
      exec (.stWr t field value) s = .next { s with respOut := s.respOut ++ [6#128] })

/-- `ST.WR` changes exactly one register: every other register of every unit of every voice, every
delay-buffer word among them, reads as before (R280, R63). -/
def Obligations.StWrLeavesOtherRegisters : Prop :=
  ∀ (s s' : State) (t : Target) (field value : Word), exec (.stWr t field value) s = .next s' →
    ∀ (t' : Target) (sel : UnitSel) (f : Nat), t'.wf s.nv allUnits = true →
      unitOfCode t'.u = some sel → ¬(t' = t ∧ (f : Int) = field.toInt) →
      registerWord s' t'.v.toNat sel t'.k.toNat f = registerWord s t'.v.toNat sel t'.k.toNat f

/-- `SYS.SUSPEND` and `SYS.RESUME` clear every voice and keep the globals and the model memory
(R281); `SYS.RESUME` directly after `SYS.SUSPEND` changes nothing (R282). -/
def Obligations.SuspendAndResumeFlush : Prop :=
  ∀ s : State,
    exec .sysSuspend s =
      .next { s with voices := s.voices.map voiClear, respOut := s.respOut ++ [0#128] } ∧
    exec .sysResume s =
      .next { s with voices := s.voices.map voiClear, respOut := s.respOut ++ [0#128] } ∧
    ∀ s', exec .sysSuspend s = .next s' →
      exec .sysResume s' = .next { s' with respOut := s'.respOut ++ [0#128] }

/-- `MDL.WR` and `MDL.RD` (R283, R284): after a write at entry `e` of model `m` of a side, that word
is the operand and every other word of both sides, named by its side, model and entry, is as it was
(R65); an index outside 0 .. 63 gives `E_INDEX`, a selector that is no side `E_UNIT`. The address of
a word in the model's list is the model's choice, log entry 8. -/
def Obligations.ModelMemoryWriteAndRead : Prop :=
  ∀ (s : State) (sd : Side) (m e x : Word) (u : BitVec 8),
    (0 ≤ m.toInt → m.toInt ≤ 63 → 0 ≤ e.toInt → e.toInt ≤ 63 →
      (∃ M, exec (.mdlWr (resCode sd) m e x) s =
          .next { s with models := M, respOut := s.respOut ++ [0#128] } ∧
        (s.models.wf = true → mdlRead M sd m.toInt.toNat e.toInt.toNat = x) ∧
        (∀ (sd' : Side) (m' e' : Nat), m' ≤ 63 → e' ≤ 63 →
          ¬(sd' = sd ∧ m' = m.toInt.toNat ∧ e' = e.toInt.toNat) →
          mdlRead M sd' m' e' = mdlRead s.models sd' m' e') ∧
        ∀ a, a ≠ mdlAddr sd m.toInt.toNat e.toInt.toNat → M.read a = s.models.read a) ∧
      exec (.mdlRd (resCode sd) m e) s = .next { s with respOut := s.respOut ++
        [0#128, mdlRead s.models sd m.toInt.toNat e.toInt.toNat] }) ∧
    (m.toInt < 0 ∨ 63 < m.toInt ∨ e.toInt < 0 ∨ 63 < e.toInt →
      exec (.mdlWr (resCode sd) m e x) s = .next { s with respOut := s.respOut ++ [5#128] } ∧
      exec (.mdlRd (resCode sd) m e) s = .next { s with respOut := s.respOut ++ [5#128] }) ∧
    (u ≠ 0x10#8 → u ≠ 0x20#8 →
      exec (.mdlWr u m e x) s = .next { s with respOut := s.respOut ++ [4#128] } ∧
      exec (.mdlRd u m e) s = .next { s with respOut := s.respOut ++ [4#128] })

/-! ### Arithmetic -/

/-- `fx_sat`, `fx_add`, `fx_sub`, `fx_neg` and `fx_abs` on the integers the words stand for, exact
where nothing saturates; `fx_add` is commutative and not associative (spec/40_arith.md R101,
R102). -/
def Obligations.FxSaturatingSums : Prop :=
  (∀ i : Int, (fxSat i).toInt =
    if 2 ^ 127 - 1 < i then 2 ^ 127 - 1 else if i < -2 ^ 127 then -2 ^ 127 else i) ∧
  (∀ a b : Fx,
    fxAdd a b = fxSat (a.toInt + b.toInt) ∧ fxSub a b = fxSat (a.toInt - b.toInt) ∧
    fxNeg a = fxSat (-a.toInt) ∧ fxAbs a = fxSat a.toInt.natAbs ∧ fxAdd a b = fxAdd b a) ∧
  (∃ a b c : Fx, fxAdd (fxAdd a b) c ≠ fxAdd a (fxAdd b c)) ∧
  fxNeg fxMin127 = fxMax127 ∧ fxAbs fxMin127 = fxMax127

/-- `fx_mul` and `fx_dot` round once, to the nearest integer with a tie toward plus infinity, and
saturate once (R103, R105); the laws and the examples R103 and R105 state. -/
def Obligations.FxMulAndDotRoundOnce : Prop :=
  (∀ a b : Fx, fxMul a b = fxSat ((a.toInt * b.toInt + 2 ^ 63) / 2 ^ 64) ∧
    fxMul a b = fxMul b a ∧ fxMul a fxOne = a ∧ fxMul a 0#128 = 0#128 ∧
    fxMul a (fxOfInt (-1)) = fxNeg a ∧ fxDot [(a.toInt, b.toInt)] = fxMul a b) ∧
  (∀ ps : List (Int × Int),
    fxDot ps = fxSat (((ps.map fun p => p.1 * p.2).sum + 2 ^ 63) / 2 ^ 64)) ∧
  (∀ ps qs : List (Int × Int), ps.Perm qs → fxDot ps = fxDot qs) ∧
  (fxMul 1#128 c05 = 1#128 ∧ fxMul (-1#128) c05 = 0#128 ∧ fxMul 3#128 c05 = 2#128 ∧
    fxMul (-3#128) c05 = -1#128 ∧ fxMul fxMax127 (fxOfInt 2) = fxMax127 ∧
    fxMul fxMin127 (fxOfInt (-1)) = fxMax127 ∧ fxMul fxMin127 fxMin127 = fxMax127) ∧
  fxDot [(c05.toInt, 1), (c05.toInt, 1)] = 1#128 ∧ fxAdd (fxMul c05 1#128) (fxMul c05 1#128) = 2#128

/-- `fx_div` rounds toward zero and saturates; a zero divisor gives the limit of the dividend's sign;
the examples of R104. -/
def Obligations.FxDivTruncates : Prop :=
  (∀ a b : Fx,
    (b.toInt ≠ 0 → fxDiv a b =
      fxSat (a.toInt.sign * b.toInt.sign * ((a.toInt.natAbs * 2 ^ 64 / b.toInt.natAbs : Nat) : Int))) ∧
    (b.toInt = 0 → fxDiv a b =
      if 0 < a.toInt then fxMax127 else if a.toInt < 0 then fxMin127 else 0#128) ∧
    fxDiv a fxOne = a) ∧
  fxDiv (fxOfInt 7) (fxOfInt 2) = 0x38000000000000000#128 ∧
  fxDiv (fxOfInt (-7)) (fxOfInt 2) = -0x38000000000000000#128 ∧
  fxDiv (fxOfInt 7) (fxOfInt (-2)) = -0x38000000000000000#128 ∧
  fxDiv (fxOfInt (-7)) (fxOfInt (-2)) = 0x38000000000000000#128 ∧
  (fxDiv fxOne (fxOfInt 3)).toInt = 6148914691236517205 ∧
  (fxDiv (fxOfInt (-1)) (fxOfInt 3)).toInt = -6148914691236517205 ∧
  fxDiv fxMin127 (fxOfInt (-1)) = fxMax127 ∧ fxDiv fxOne 1#128 = fxMax127

/-- Property P3 of R109 holds of the record the commands run on, and so do the five fixed values of
spec/92_eei_decisions.md D3, which R109 does not list and to follow which is the model's choice, log
entry 22, and the two values at 1 that the model reads from spec/44_partial.md R191, log entry 23;
with the frequency mapping of spec/47_voice.md R236 the octaves of R242 are exact: notes 69, 81 and 57 give 440, 880 and 220 Hz,
and pitch offsets of 0, 12 and -12 semitones give the factors 1, 2 and 1/2 (R239). -/
def Obligations.ExactPowersAndOctaves : Prop :=
  HasExactPowers machineNum ∧ HasFixedValues machineNum ∧ HasUnitValues machineNum ∧
  (∀ n : Int, voiNote2freq n =
    fxMul (fxOfInt 440) (numPow (fxOfInt 2) (fxDiv (fxOfInt (n - 69)) (fxOfInt 12)))) ∧
  voiNote2freq 69 = fxOfInt 440 ∧ voiNote2freq 81 = fxOfInt 880 ∧ voiNote2freq 57 = fxOfInt 220 ∧
  voiPitchFactor 0#128 0#128 = fxOne ∧ voiPitchFactor (fxOfInt 12) 0#128 = fxOfInt 2 ∧
  voiPitchFactor (fxOfInt (-12)) 0#128 = c05

/-- Every record that is `REFNUM` (R110) has property P3 of R109, the rounded powers of two being
exact, the five fixed values of spec/92_eei_decisions.md D3 (log entry 22) and the two values at 1
of log entry 23. -/
def Obligations.RefNumHasExactPowers : Prop :=
  ∀ num, IsRefNum num → HasExactPowers num ∧ HasFixedValues num ∧ HasUnitValues num

/-! ### Envelope -/

/-- `ENV.DEC`, `ENV.SUS` and `ENV.RST` (spec/41_envelope.md R136, R137, R140): the state register,
and for `ENV.RST` the value, and nothing else. -/
def Obligations.EnvForcedSegments : Prop :=
  ∀ (s : State) (t : Target), t.wf s.nv [0x05#8] = true →
    exec (.envDec t) s = .next (respond .ok [] (withVoice s t ((voiceOf s t).setEnv
      { (voiceOf s t).noise.env with state := .decay }))) ∧
    exec (.envSus t) s = .next (respond .ok [] (withVoice s t ((voiceOf s t).setEnv
      { (voiceOf s t).noise.env with state := .sustain }))) ∧
    exec (.envRst t) s = .next (respond .ok [] (withVoice s t ((voiceOf s t).setEnv
      { (voiceOf s t).noise.env with state := .off, env := 0#128 })))

/-- `ENV.INIT` (R134): the times in samples with the floor of 1 ms, the sustain level clamped at
0 dB, and the tensions; state, value, scale and coefficients are kept. -/
def Obligations.EnvInitCommand : Prop :=
  ∀ (s : State) (t : Target) (srate att dec sus rel ta td tr : Word),
    t.wf s.nv [0x05#8] = true →
    exec (.envInit t srate att dec sus rel ta td tr) s =
      .next (respond .ok [] (withVoice s t ((voiceOf s t).setEnv
        { (voiceOf s t).noise.env with
          att := fxDiv (fxMul (fxMax att fxOne) srate) (fxOfInt 1000)
          dec := fxDiv (fxMul (fxMax dec fxOne) srate) (fxOfInt 1000)
          rel := fxDiv (fxMul (fxMax rel fxOne) srate) (fxOfInt 1000)
          sus := numPow (fxOfInt 10) (fxDiv (fxMin sus 0#128) (fxOfInt 20))
          ta := envNormTension ta
          td := envNormTension td
          tr := envNormTension tr })))

/-- `ENV.ATK` and `ENV.REL` (R135, R138): the coefficient pairs from `env_calc_coefs`, which the
next two clauses give (R132); the state, and for `ENV.ATK` the scale; `env` is kept. With `tc` = 0
the pair is the one that holds a value, `b` = 0 and `c` = 1, which R132 says for `REFNUM` and the
model has for every `NUM` (log entry 22). -/
def Obligations.EnvAttackAndRelease : Prop :=
  (∀ (s : State) (t : Target) (scale : Word) (u : Envelope) (lvl : Fx),
    t.wf s.nv [0x05#8] = true → u = (voiceOf s t).noise.env →
    lvl = fxMul (fxMax u.env u.sus) u.scale →
    exec (.envAtk t scale) s = .next (respond .ok [] (withVoice s t ((voiceOf s t).setEnv
      { u with
        scale := scale
        ab := (envCalcCoefs 0#128 scale scale u.att u.ta fxOne).1
        ac := (envCalcCoefs 0#128 scale scale u.att u.ta fxOne).2
        db := (envCalcCoefs fxOne (fxMul u.sus scale) (fxMul (fxSub fxOne u.sus) scale) u.dec u.td
          (fxOfInt (-1))).1
        dc := (envCalcCoefs fxOne (fxMul u.sus scale) (fxMul (fxSub fxOne u.sus) scale) u.dec u.td
          (fxOfInt (-1))).2
        state := .attack }))) ∧
    exec (.envRel t) s = .next (respond .ok [] (withVoice s t ((voiceOf s t).setEnv
      { u with
        rb := (envCalcCoefs lvl 0#128 lvl u.rel u.tr (fxOfInt (-1))).1
        rc := (envCalcCoefs lvl 0#128 lvl u.rel u.tr (fxOfInt (-1))).2
        state := .release })))) ∧
  (∀ tb1 tb2 tc rate tension mult p c : Fx,
    (fxOne.toInt < tension.toInt →
      p = fxMul (fxMul (fxSub tension fxOne) (fxSub tension fxOne)) (fxSub tension fxOne) →
      c = numExp (fxDiv (numLn (fxDiv (fxAdd tc p) p)) rate) →
      envCalcCoefs tb1 tb2 tc rate tension mult =
        (fxMul (fxSub tb1 (fxMul mult p)) (fxSub fxOne c), c)) ∧
    (tension.toInt ≤ fxOne.toInt → p = fxMul (fxMul tension tension) tension →
      c = numExp (fxNeg (fxDiv (numLn (fxDiv (fxAdd tc p) p)) rate)) →
      envCalcCoefs tb1 tb2 tc rate tension mult =
        (fxMul (fxAdd tb2 (fxMul mult p)) (fxSub fxOne c), c))) ∧
  ∀ tb1 tb2 rate tension mult p : Fx,
    p = (if fxOne.toInt < tension.toInt then fxCube (fxSub tension fxOne) else fxCube tension) →
    p ≠ 0#128 → envCalcCoefs tb1 tb2 0#128 rate tension mult = (0#128, fxOne)

/-- `ENV.PROC` (R139, and the `env_process` rows of R130): one segment test a step, the end point of
a segment written back, the state code and the value answered. -/
def Obligations.EnvProcCommand : Prop :=
  ∀ (s : State) (t : Target) (u : Envelope), t.wf s.nv [0x05#8] = true →
    u = (voiceOf s t).noise.env →
    ∃ u', exec (.envProc t) s = .next (respond .ok [wordOfNat u'.state.code, u'.env]
        (withVoice s t ((voiceOf s t).setEnv u'))) ∧
      (u.state = .off ∨ u.state = .sustain → u' = u) ∧
      (u.state = .attack → ∀ e, e = fxAdd u.ab (fxMul u.env u.ac) →
        (u.scale.toInt ≤ e.toInt → u' = { u with env := u.scale, state := .decay }) ∧
        (e.toInt < u.scale.toInt → u' = { u with env := e })) ∧
      (u.state = .decay → ∀ e, e = fxAdd u.db (fxMul u.env u.dc) →
        (e.toInt ≤ (fxMul u.sus u.scale).toInt →
          u' = { u with env := fxMul u.sus u.scale, state := .sustain }) ∧
        ((fxMul u.sus u.scale).toInt < e.toInt → u' = { u with env := e })) ∧
      (u.state = .release → ∀ e, e = fxAdd u.rb (fxMul u.env u.rc) →
        (e.toInt ≤ 0 → u' = { u with env := 0#128, state := .off }) ∧
        (0 < e.toInt → u' = { u with env := e }))

/-- Tension normalisation (R131): 100 at 0, in `[0.001, 1.001)` below 0, in `[1.001, 2.001)` above,
and constant outside `[-1, 1]`. The upper bound below 0 is what the rule's pseudocode gives; its
prose has 1 there (log entry 19). -/
def Obligations.EnvTensionRange : Prop :=
  ∀ t : Fx,
    (t.toInt = 0 → envNormTension t = fxOfInt 100) ∧
    (t.toInt < 0 → c0001.toInt ≤ (envNormTension t).toInt ∧
      (envNormTension t).toInt < fxOne.toInt + c0001.toInt) ∧
    (0 < t.toInt → fxOne.toInt + c0001.toInt ≤ (envNormTension t).toInt ∧
      (envNormTension t).toInt < 2 * fxOne.toInt + c0001.toInt) ∧
    (fxOne.toInt ≤ t.toInt → envNormTension t = envNormTension fxOne) ∧
    (t.toInt ≤ -fxOne.toInt → envNormTension t = c0001)

/-! ### Filter -/

/-- `FLT.LP`, `FLT.BP` and `FLT.HP` on any of the four Filters (spec/42_filter.md R151, R153 to R155):
the five coefficients, the history kept; and their values at `freq` = 0 (the corner cases of R153 to
R155, by the values of `NUM` at 0 that log entry 22 names). -/
def Obligations.FilterTuning : Prop :=
  ∀ (s : State) (t : Target) (sel : FilterSel) (srate freq q w0 alpha a0 a1 a2 lp bp hp : Fx),
    t.wf s.nv [filterCode sel] = true →
    w0 = fxMul fxTwoPi (fxMin (fxDiv freq srate) c049) →
    alpha = fxDiv (numSin w0) (fxMul (fxOfInt 2) q) →
    a0 = fxAdd fxOne alpha →
    a1 = fxDiv (fxMul (fxOfInt (-2)) (numCos w0)) a0 →
    a2 = fxDiv (fxSub fxOne alpha) a0 →
    lp = fxDiv (fxAdd (fxAdd fxOne a1) a2) (fxOfInt 4) →
    bp = fxDiv (fxMul (fxSub fxOne a2) q) (fxOfInt 2) →
    hp = fxDiv (fxAdd (fxSub fxOne a1) a2) (fxOfInt 4) →
    exec (.fltLp t srate freq q) s = .next (respond .ok [] (withVoice s t
      (withFilterCoefs (voiceOf s t) sel a1 a2 lp (fxMul (fxOfInt 2) lp) lp))) ∧
    exec (.fltBp t srate freq q) s = .next (respond .ok [] (withVoice s t
      (withFilterCoefs (voiceOf s t) sel a1 a2 bp 0#128 (fxNeg bp)))) ∧
    exec (.fltHp t srate freq q) s = .next (respond .ok [] (withVoice s t
      (withFilterCoefs (voiceOf s t) sel a1 a2 hp (fxMul (fxOfInt (-2)) hp) hp))) ∧
    (freq = 0#128 → a1 = fxOfInt (-2) ∧ a2 = fxOne ∧ lp = 0#128 ∧ bp = 0#128 ∧ hp = fxOne)

/-- `FLT.DF1` (R150, R156): direct form I on each lane with one rounding, both histories shifted; on
a one-lane Filter the words of lanes 1 to 3 are ignored and answered by 0. -/
def Obligations.FilterSample : Prop :=
  ∀ (s : State) (t : Target) (x0 x1 x2 x3 : Word),
    (∀ f y, t.wf s.nv [0x02#8] = true → f = (voiceOf s t).mallet.flt →
      y = fxDot [(f.b0.toInt, x0.toInt), (f.b1.toInt, f.x0.toInt), (f.b2.toInt, f.x1.toInt),
        (-f.a1.toInt, f.y1.toInt), (-f.a2.toInt, f.y2.toInt)] →
      exec (.fltDf1 t x0 x1 x2 x3) s = .next (respond .ok [y, 0#128, 0#128, 0#128]
        (withVoice s t ((voiceOf s t).setMalletFlt
          { f with x0 := x0, x1 := f.x0, x2 := f.x1, y0 := y, y1 := y, y2 := f.y1 })))) ∧
    (∀ f y, t.wf s.nv [0x04#8] = true → f = (voiceOf s t).noise.flt →
      y = fxDot [(f.b0.toInt, x0.toInt), (f.b1.toInt, f.x0.toInt), (f.b2.toInt, f.x1.toInt),
        (-f.a1.toInt, f.y1.toInt), (-f.a2.toInt, f.y2.toInt)] →
      exec (.fltDf1 t x0 x1 x2 x3) s = .next (respond .ok [y, 0#128, 0#128, 0#128]
        (withVoice s t ((voiceOf s t).setNoiseFlt
          { f with x0 := x0, x1 := f.x0, x2 := f.x1, y0 := y, y1 := y, y2 := f.y1 })))) ∧
    (∀ sd f (y : V4), t.wf s.nv [postCode sd] = true → f = ((voiceOf s t).res sd).post →
      (∀ l < 4, y.lane l = fxDot [(f.b0.toInt, ((⟨x0, x1, x2, x3⟩ : V4).lane l).toInt),
        (f.b1.toInt, (f.x0.lane l).toInt), (f.b2.toInt, (f.x1.lane l).toInt),
        (-f.a1.toInt, (f.y1.lane l).toInt), (-f.a2.toInt, (f.y2.lane l).toInt)]) →
      exec (.fltDf1 t x0 x1 x2 x3) s = .next (respond .ok [y.l0, y.l1, y.l2, y.l3]
        (withVoice s t ((voiceOf s t).setPost sd
          { f with
            x0 := ⟨x0, x1, x2, x3⟩, x1 := f.x0, x2 := f.x1, y0 := y, y1 := y, y2 := f.y1 }))))

/-- `FLT.CLR` and `FLT.RST` (R157, R158): the history seeded for a constant input, or zeroed; the
coefficients kept. -/
def Obligations.FilterHistory : Prop :=
  ∀ (s : State) (t : Target) (x0 x1 x2 x3 : Word),
    (∀ f g, t.wf s.nv [0x02#8] = true → f = (voiceOf s t).mallet.flt →
      g = fxDiv (fxAdd (fxAdd f.b0 f.b1) f.b2) (fxAdd (fxAdd fxOne f.a1) f.a2) →
      exec (.fltClr t x0 x1 x2 x3) s = .next (respond .ok [] (withVoice s t
        ((voiceOf s t).setMalletFlt
          { f with
            x0 := x0, x1 := x0, x2 := x0, y0 := fxMul x0 g, y1 := fxMul x0 g
            y2 := fxMul x0 g }))) ∧
      exec (.fltRst t) s = .next (respond .ok [] (withVoice s t ((voiceOf s t).setMalletFlt
        { f with x0 := 0, x1 := 0, x2 := 0, y0 := 0, y1 := 0, y2 := 0 })))) ∧
    (∀ f g, t.wf s.nv [0x04#8] = true → f = (voiceOf s t).noise.flt →
      g = fxDiv (fxAdd (fxAdd f.b0 f.b1) f.b2) (fxAdd (fxAdd fxOne f.a1) f.a2) →
      exec (.fltClr t x0 x1 x2 x3) s = .next (respond .ok [] (withVoice s t
        ((voiceOf s t).setNoiseFlt
          { f with
            x0 := x0, x1 := x0, x2 := x0, y0 := fxMul x0 g, y1 := fxMul x0 g
            y2 := fxMul x0 g }))) ∧
      exec (.fltRst t) s = .next (respond .ok [] (withVoice s t ((voiceOf s t).setNoiseFlt
        { f with x0 := 0, x1 := 0, x2 := 0, y0 := 0, y1 := 0, y2 := 0 })))) ∧
    (∀ sd f g (x y : V4), t.wf s.nv [postCode sd] = true → f = ((voiceOf s t).res sd).post →
      g = fxDiv (fxAdd (fxAdd f.b0 f.b1) f.b2) (fxAdd (fxAdd fxOne f.a1) f.a2) →
      x = ⟨x0, x1, x2, x3⟩ → y = ⟨fxMul x0 g, fxMul x1 g, fxMul x2 g, fxMul x3 g⟩ →
      exec (.fltClr t x0 x1 x2 x3) s = .next (respond .ok [] (withVoice s t
        ((voiceOf s t).setPost sd
          { f with x0 := x, x1 := x, x2 := x, y0 := y, y1 := y, y2 := y }))) ∧
      exec (.fltRst t) s = .next (respond .ok [] (withVoice s t ((voiceOf s t).setPost sd
        { f with
          x0 := .zero, x1 := .zero, x2 := .zero, y0 := .zero, y1 := .zero,
          y2 := .zero }))))

/-! ### Mallet and Noise -/

/-- `MLT.TRIG`, `MLT.PROC` and `MLT.CLR` (spec/43_mallet_noise.md R166 to R168). For `srate` = 0 the
decay multiplier is what the pseudocode of R166 gives, not what its corner-case sentence names: the
model's choice, log entry 11. -/
def Obligations.MalletCommands : Prop :=
  ∀ (s : State) (t : Target) (srate freq : Word) (m : Mallet), t.wf s.nv [0x01#8] = true →
    m = (voiceOf s t).mallet →
    exec (.mltTrig t srate freq) s = .next (respond .ok [] (withVoice s t ((voiceOf s t).setMallet
      { impulse := fxOne
        env := numExp (fxNeg (fxDiv fxOne (fxMul c01 srate)))
        elapsed := fxFloorU32 (fxDiv srate (fxOfInt 10))
        flt := fltResetOne (fltBpProc m.flt srate freq c0707) }))) ∧
    (m.elapsed = 0#32 → exec (.mltProc t) s =
      .next (respond .ok [0#128] (withVoice s t (voiceOf s t)))) ∧
    (m.elapsed ≠ 0#32 → exec (.mltProc t) s =
      .next (respond .ok [fxMul (fltDf1One m.flt m.impulse).y0 (fxOfInt 2)]
        (withVoice s t ((voiceOf s t).setMallet
          { impulse := fxMul m.impulse m.env, env := m.env, elapsed := m.elapsed - 1#32
            flt := fltDf1One m.flt m.impulse })))) ∧
    exec (.mltClr t) s = .next (respond .ok [] (withVoice s t ((voiceOf s t).setMallet
      { impulse := 0#128, env := m.env, elapsed := 0#32, flt := fltResetOne m.flt })))

/-- A Mallet sounds for exactly `elapsed` samples: the countdown goes down by one a sample to 0, and
from then on a sample is 0 and nothing moves (R165, R167). -/
def Obligations.MalletCountdown : Prop :=
  ∀ (n : Nat) (m : Mallet),
    ((fun x => (mltProcess x).1)^[n] m).elapsed.toNat = m.elapsed.toNat - n ∧
    (m.elapsed.toNat ≤ n →
      mltProcess ((fun x => (mltProcess x).1)^[n] m) =
        ((fun x => (mltProcess x).1)^[m.elapsed.toNat] m, 0#128))

/-- `NSE.INIT`, `NSE.ATK`, `NSE.REL` and `NSE.CLR` (R173, R175, R177, R178), with `initFilter` and
the Envelope's procedures. -/
def Obligations.NoiseParameterCommands : Prop :=
  ∀ (s : State) (t : Target)
    (srate mode freq q att dec sus rel velFreq velQ vel : Word) (n n1 n2 : Noise),
    t.wf s.nv [0x03#8] = true → n = (voiceOf s t).noise →
    n1 = nseInitFilter { n with
      srate := srate, freq := freq, q := q, velFreq := velFreq, velQ := velQ
      mode := if mode = 1#128 then .bp else if mode = 2#128 then .hp else .lp } →
    n2 = nseInitFilter { n with vel := vel } →
    exec (.nseInit t srate mode freq q att dec sus rel velFreq velQ) s =
      .next (respond .ok [] (withVoice s t ((voiceOf s t).setNoise
        { n1 with env := envInitProc n.env srate att dec sus rel c04 c04 c04 }))) ∧
    exec (.nseAtk t vel) s = .next (respond .ok [] (withVoice s t ((voiceOf s t).setNoise
      { n2 with env := envAttackProc n.env fxOne }))) ∧
    exec (.nseRel t) s = .next (respond .ok [] (withVoice s t ((voiceOf s t).setNoise
      { n with env := envReleaseProc n.env }))) ∧
    exec (.nseClr t) s = .next (respond .ok [] (withVoice s t ((voiceOf s t).setNoise
      { n with env := { n.env with state := .off, env := 0#128 }, flt := fltResetOne n.flt })))

/-- `NSE.PROC` (R176): nothing is drawn when the Envelope is `Off`; else one word is drawn and
clamped into `[-1, 1)`, and the command waits when there is none (spec/20_memory.md R69, R70). -/
def Obligations.NoiseProcDraws : Prop :=
  ∀ (s : State) (t : Target) (n : Noise), t.wf s.nv [0x03#8] = true → n = (voiceOf s t).noise →
    (n.env.state = .off →
      exec (.nseProc t) s = .next (respond .ok [0#128] (withVoice s t (voiceOf s t)))) ∧
    (n.env.state ≠ .off → s.rngIn = [] → exec (.nseProc t) s = .fault .rngWait) ∧
    (∀ r rest c f x, n.env.state ≠ .off → s.rngIn = r :: rest →
      c = fxMax (fxOfInt (-1)) (fxMin (fxOne - 1#128) r) →
      f = (if n.filterActive then fltDf1One n.flt c else n.flt) →
      x = (if n.filterActive then f.y0 else c) →
      -fxOne.toInt ≤ c.toInt ∧ c.toInt ≤ fxOne.toInt - 1 ∧
      exec (.nseProc t) s = .next (respond .ok [fxMul x (envProcess n.env).env]
        { withVoice s t ((voiceOf s t).setNoise
            { n with
              env := envProcess n.env
              flt := if (envProcess n.env).state = .off then fltResetOne f else f }) with
          rngIn := rest }))

/-- Whatever a Noise holds, `initFilter` tunes its Filter with the velocity-modulated frequency and
resonance, clamped to 20 .. 20000 Hz and 0.707 .. 4 (R174, R179), keeps the Filter's history, and
turns the Filter off exactly at the open end of a low-pass or a high-pass. -/
def Obligations.NoiseFilterClamps : Prop :=
  ∀ (n : Noise) (f res : Fx),
    f = fxMin (fxMax (numExp (fxAdd (numLn n.freq)
      (fxMul (fxMul n.vel n.velFreq) cLn1000))) (fxOfInt 20)) (fxOfInt 20000) →
    res = fxMin (fxMax (fxAdd n.q (fxMul (fxMul n.vel n.velQ) cResRange)) c0707) (fxOfInt 4) →
    (fxOfInt 20).toInt ≤ f.toInt ∧ f.toInt ≤ (fxOfInt 20000).toInt ∧
    c0707.toInt ≤ res.toInt ∧ res.toInt ≤ (fxOfInt 4).toInt ∧
    nseInitFilter n =
      { n with
        filterActive := !((n.mode == .lp && decide ((fxOfInt 20000).toInt ≤ f.toInt)) ||
          (n.mode == .hp && decide (f.toInt ≤ (fxOfInt 20).toInt)))
        flt := if n.mode = .bp then fltBpProc n.flt n.srate f res
          else if n.mode = .hp then fltHpProc n.flt n.srate f res
          else fltLpProc n.flt n.srate f res }

/-! ### Partial -/

/-- `PRT.UPD` (spec/44_partial.md R186, R187, R190): the six steps, the silent-partial policy among
them; the history is kept. With `hit` and `vel_hit` 0 the amplitude and `b0`, `b2` are 0 (the corner
case of R187, by the value of `NUM` at 0 that log entry 22 names). The decay time follows the
pseudocode of R190, not the sentences beside it: model's choice, log entry 24. The boundary property
R191: with `ratio` = `FX_ONE` the warping factor is exactly `FX_ONE` and `f_k` = `f0`, whatever the
rest of `NUM`, so that `f0` alone is held against 20 Hz and the Nyquist bound, which is `FX(23040)`
at 48000 Hz and `FX(21168)` at 44100 Hz; and with the decay registers of R191 both decay times are
`FX_ONE`, so that neither makes the Partial inert. The values of `NUM` at 1 these clauses use are the
model's choice, log entries 22 and 23. -/
def Obligations.PartialUpdateCommand : Prop :=
  ∀ (s : State) (t : Target) (sd : Side) (f0 ratio ratioMax vel rel : Word) (u inert : Partial)
    (ik fk dk0 dk fmax alpha dk2 tone amp : Fx),
    t.wf s.nv [partCode sd] = true → u = partialOf s t sd →
    inert = { u with a0 := fxOne, a1 := 0, a2 := 0, b0 := 0, b2 := 0 } →
    ik = numSqrt (fxAdd fxOne (fxMul
      (fxMax 0#128 (fxSub (fxMin fxOne (numExp (fxAdd (numLn u.inharm)
        (fxMul (fxMul vel u.velInharm) cLn10000)))) c00001))
      (fxMul (fxSub ratio fxOne) (fxSub ratio fxOne)))) →
    fk = fxMul (fxMul f0 ratio) ik →
    dk0 = fxMax 0#128 (fxMin (fxOfInt 100) (numExp (fxAdd (numLn u.decay)
      (fxMul (fxMul vel u.velDecay) (fxSub cLn100 (numLn u.decay)))))) →
    dk = (if rel = 0#128 then dk0 else fxMul dk0 u.rel) →
    fmax = fxMin (fxOfInt 20000) (fxMul (fxMul f0 ratioMax) ik) →
    alpha = fxDiv fxTwoPi u.srate →
    dk2 = fxDiv dk (numPow
      (if u.damp.toInt ≤ 0 then fxDiv f0 fk else fxDiv fmax fk) (fxMul (fxOfInt 2) u.damp)) →
    tone = numPow
      (if u.tone.toInt ≤ 0 then fxDiv fk f0 else fxDiv fk fmax) (fxMul (fxOfInt 2) u.tone) →
    amp = fxMul (fxOfInt 35) (fxAbs (numSin (fxMul
      (fxMul fxPi (fxOfInt (t.k.toNat + 1)))
      (fxMin c05 (fxAdd u.hit (fxDiv (fxMul u.velHit vel) (fxOfInt 2))))))) →
    exec (.prtUpd t f0 ratio ratioMax vel rel) s = .next (respond .ok [] (withVoice s t
      ((voiceOf s t).setPart sd t.k.toNat
        (if (fxDiv (fxMul (fxOfInt 48) u.srate) (fxOfInt 100)).toInt ≤ fk.toInt ∨
            fk.toInt < (fxOfInt 20).toInt ∨ dk.toInt ≤ 0 ∨ dk2.toInt ≤ 0 then inert
          else
            { u with
              b0 := fxMul (fxMul alpha tone) amp
              b2 := fxNeg (fxMul (fxMul alpha tone) amp)
              a1 := fxMul (fxOfInt (-2)) (numCos (fxDiv (fxMul fxTwoPi fk) u.srate))
              a0 := fxAdd fxOne (fxDiv alpha dk2)
              a2 := fxSub fxOne (fxDiv alpha dk2) })))) ∧
    (u.hit = 0#128 → u.velHit = 0#128 → amp = 0#128 ∧ fxMul (fxMul alpha tone) amp = 0#128 ∧
      fxNeg (fxMul (fxMul alpha tone) amp) = 0#128) ∧
    (ratio = fxOne → ik = fxOne ∧ fk = f0) ∧
    (ratio = fxOne → f0 ≠ 0#128 → u.decay = fxOne → u.velDecay = 0#128 → u.damp = 0#128 →
      rel = 0#128 → dk = fxOne ∧ dk2 = fxOne) ∧
    (u.srate = fxOfInt 48000 →
      fxDiv (fxMul (fxOfInt 48) u.srate) (fxOfInt 100) = fxOfInt 23040) ∧
    (u.srate = fxOfInt 44100 →
      fxDiv (fxMul (fxOfInt 48) u.srate) (fxOfInt 100) = fxOfInt 21168)

/-- `PRT.PROC` and `PRT.CLR` (R188, R189): the recurrence on each lane and the history; and a
Partial with the inert set answers 0 on every lane whatever the input and the history (R186). -/
def Obligations.PartialSampleAndClear : Prop :=
  ∀ (s : State) (t : Target) (sd : Side) (x0 x1 x2 x3 : Word) (u : Partial) (x y : V4),
    t.wf s.nv [partCode sd] = true → u = partialOf s t sd → x = ⟨x0, x1, x2, x3⟩ →
    (∀ l < 4, y.lane l = fxDiv (fxDot [(u.b0.toInt, (x.lane l).toInt),
      (u.b2.toInt, (u.x2.lane l).toInt), (-u.a1.toInt, (u.y1.lane l).toInt),
      (-u.a2.toInt, (u.y2.lane l).toInt)]) u.a0) →
    exec (.prtProc t x0 x1 x2 x3) s = .next (respond .ok [y.l0, y.l1, y.l2, y.l3]
      (withVoice s t ((voiceOf s t).setPart sd t.k.toNat
        { u with x2 := u.x1, x1 := x, y2 := u.y1, y1 := y }))) ∧
    (u.a0 = fxOne → u.a1 = 0#128 → u.a2 = 0#128 → u.b0 = 0#128 → u.b2 = 0#128 → y = V4.zero) ∧
    exec (.prtClr t) s = .next (respond .ok [] (withVoice s t
      ((voiceOf s t).setPart sd t.k.toNat
        { u with x1 := .zero, x2 := .zero, y1 := .zero, y2 := .zero })))

/-! ### Waveguide -/

/-- `WGD.UPD` and `WGD.CLR` (spec/45_waveguide.md R202, R204): the tube length clamped to
`1 .. WG_LEN`, the read pointer behind the write pointer by it, the decay; and the emptied tube,
every word of which reads 0. The decay follows the pseudocode, not the corner case for `decay <= 0`:
model's choice, log entry 24. -/
def Obligations.WaveguideUpdateAndClear : Prop :=
  ∀ (s : State) (t : Target) (sd : Side) (f0 vel rel : Word) (w : Waveguide) (n : Nat) (dk : Fx),
    t.wf s.nv [wgCode sd] = true → ParamsLegal s.params → w = ((voiceOf s t).res sd).wg →
    n = max 1 (min s.params.wgLen (if w.isClosed then (fxFloorU32 (fxDiv w.srate f0)).toNat / 2
      else (fxFloorU32 (fxDiv w.srate f0)).toNat)) →
    dk = modDecay w.decay vel w.velDecay w.rel (rel != 0#128) →
    (∃ w', exec (.wgdUpd t f0 vel rel) s = .next (respond .ok [] (withVoice s t
        ((voiceOf s t).setWg sd w'))) ∧
      w'.tlen.toNat = n ∧
      (w'.readPtr.toNat : Int) = ((w.writePtr.toNat : Int) - n) % s.params.wgLen ∧
      w'.tubeDecay = (if 0 < dk.toInt then numExp (fxNeg (fxDiv
        (fxMul fxPi (fxOfInt 125000)) (fxMul (fxMul f0 w.srate) dk))) else 0#128) ∧
      w' = { w with tlen := w'.tlen, readPtr := w'.readPtr, tubeDecay := w'.tubeDecay }) ∧
    ∃ w', exec (.wgdClr t) s = .next (respond .ok [] (withVoice s t
        ((voiceOf s t).setWg sd w'))) ∧
      (∀ a, w'.buf.read a = 0#128) ∧
      w' = { w with readPtr := 0, writePtr := 0, yPrev := .zero, buf := w'.buf }

/-- `WGD.PROC` (R203, spec/20_memory.md R74): the one-pole, the decay and the write-back on each
lane, the read before the write; only the entry at the old write pointer changes in the buffer. -/
def Obligations.WaveguideSample : Prop :=
  ∀ (s : State) (t : Target) (sd : Side) (x0 x1 x2 x3 : Word) (w : Waveguide) (x y d z : V4),
    t.wf s.nv [wgCode sd] = true → StateInv s → w = ((voiceOf s t).res sd).wg →
    x = ⟨x0, x1, x2, x3⟩ →
    (∀ l < 4, y.lane l = fxDot [((w.radius.lane l).toInt,
        (w.buf.read (4 * w.readPtr.toNat + l)).toInt),
      ((fxSub fxOne (w.radius.lane l)).toInt, (w.yPrev.lane l).toInt)]) →
    (∀ l < 4, d.lane l = fxMul (y.lane l) w.tubeDecay) →
    (∀ l < 4, z.lane l = if w.isClosed then fxSub (x.lane l) (d.lane l)
      else fxAdd (x.lane l) (d.lane l)) →
    ∃ w', exec (.wgdProc t x0 x1 x2 x3) s = .next (respond .ok [d.l0, d.l1, d.l2, d.l3]
        (withVoice s t ((voiceOf s t).setWg sd w'))) ∧
      (∀ l < 4, w'.buf.read (4 * w.writePtr.toNat + l) = z.lane l) ∧
      (∀ a, a / 4 ≠ w.writePtr.toNat → w'.buf.read a = w.buf.read a) ∧
      w'.readPtr.toNat = (w.readPtr.toNat + 1) % s.params.wgLen ∧
      w'.writePtr.toNat = (w.writePtr.toNat + 1) % s.params.wgLen ∧
      w' = { w with
        yPrev := y, buf := w'.buf, readPtr := w'.readPtr, writePtr := w'.writePtr }

/-- The delay of a tube (R200): an update sets the distance of the pointers to the tube length
modulo `WG_LEN`, and a sample keeps it; and the octave property (R205): a closed tube has half the
length of the open one, where the clamp of R202 leaves both lengths alone. That premise is the
model's reading of R205, log entry 12. -/
def Obligations.WaveguideDelayAndOctave : Prop :=
  (∀ (n : Nat) (w : Waveguide) (f0 vel : Fx) (rel : Bool), 2 ≤ n → n ≤ 2147483648 →
    w.writePtr.toNat < n →
    ((wgdUpdate n w f0 vel rel).writePtr.toNat + n - (wgdUpdate n w f0 vel rel).readPtr.toNat) % n =
      (wgdUpdate n w f0 vel rel).tlen.toNat % n) ∧
  (∀ (n : Nat) (w : Waveguide) (x : V4), 2 ≤ n → n ≤ 2147483648 → w.writePtr.toNat < n →
    w.readPtr.toNat < n →
    ((wgdProcess n w x).writePtr.toNat + n - (wgdProcess n w x).readPtr.toNat) % n =
      (w.writePtr.toNat + n - w.readPtr.toNat) % n) ∧
  ∀ (n : Nat) (w : Waveguide) (f0 vel : Fx) (rel : Bool), n ≤ 2147483648 →
    2 ≤ (fxFloorU32 (fxDiv w.srate f0)).toNat → (fxFloorU32 (fxDiv w.srate f0)).toNat ≤ n →
    (wgdUpdate n { w with isClosed := true } f0 vel rel).tlen.toNat =
      (wgdUpdate n { w with isClosed := false } f0 vel rel).tlen.toNat / 2

/-! ### Resonator -/

/-- `RES.SETP` (spec/46_resonator.md R216, R217): the parameters, legalised, in the Resonator, in all
64 Partials and in the Waveguide; the post Filter retuned; everything else kept. -/
def Obligations.ResonatorParameters : Prop :=
  ∀ (s : State) (t : Target) (sd : Side)
    (srate on model npartials decay damp tone hit rel inharm cut
      rad0 rad1 rad2 rad3 velDecay velHit velInharm : Word) (r : Resonator),
    t.wf s.nv [resCode sd] = true → r = (voiceOf s t).res sd →
    ∃ r', exec (.resSetp t srate on model npartials decay damp tone hit rel inharm cut
        rad0 rad1 rad2 rad3 velDecay velHit velInharm) s =
        .next (respond .ok [] (withVoice s t ((voiceOf s t).setRes sd r'))) ∧
      (r'.model.toNat : Int) = clampInt model.toInt 0 63 ∧
      (r'.npartials.toNat : Int) = clampInt npartials.toInt 0 64 ∧
      (∀ i < 64, bankGet r'.parts i = { bankGet r.parts i with
        decay := decay, damp := damp, tone := tone, hit := hit, rel := rel, inharm := inharm
        velDecay := velDecay, velHit := velHit, velInharm := velInharm, srate := srate }) ∧
      r'.wg = { r.wg with
        isClosed := decide (8 ≤ r'.model.toNat), srate := srate, decay := decay, rel := rel
        velDecay := velDecay, radius := ⟨rad0, rad1, rad2, rad3⟩ } ∧
      (cut.toInt < 0 → r'.post = fltLpProc r.post srate (fxMin (fxMax (numExp
        (fxAdd cLn20000 (fxMul cut cLn1000))) (fxOfInt 20)) (fxOfInt 20000)) c0707) ∧
      (0 ≤ cut.toInt → r'.post = fltHpProc r.post srate (fxMin (fxMax (numExp
        (fxAdd cLn20 (fxMul cut cLn1000))) (fxOfInt 20)) (fxOfInt 20000)) c0707) ∧
      r' = { r with
        srate := srate, on := on != 0#128, model := r'.model, npartials := r'.npartials
        decay := decay, damp := damp, tone := tone, hit := hit, rel := rel, inharm := inharm
        cut := cut, radius := ⟨rad0, rad1, rad2, rad3⟩, velDecay := velDecay, velHit := velHit
        velInharm := velInharm, parts := r'.parts, wg := r'.wg, post := r'.post }

/-- `RES.ACT`, `RES.UPD` and `RES.CLR` (R219, R218, R221): activation; the update of the selected
variant, each Partial with its own ratio and the reference `model[63]`; the clear of all 64
Partials, the Waveguide and the post Filter. -/
def Obligations.ResonatorActivateUpdateClear : Prop :=
  ∀ (s : State) (t : Target) (sd : Side) (freq vel rel : Word) (model : List Word)
    (r : Resonator), t.wf s.nv [resCode sd] = true → r = (voiceOf s t).res sd →
    exec (.resAct t) s = .next (respond .ok [] (withVoice s t ((voiceOf s t).setRes sd
      { r with active := true, silence := 0#32 }))) ∧
    (r.model.toNat < 7 → ∃ r', exec (.resUpd t freq vel rel model) s =
        .next (respond .ok [] (withVoice s t ((voiceOf s t).setRes sd r'))) ∧
      (∀ i < 64, i < r.npartials.toNat → bankGet r'.parts i = prtUpdate i (bankGet r.parts i) freq
        (model.getD i 0#128) (model.getD 63 0#128) vel (rel != 0#128)) ∧
      (∀ i < 64, r.npartials.toNat ≤ i → bankGet r'.parts i = bankGet r.parts i) ∧
      r' = { r with parts := r'.parts }) ∧
    (7 ≤ r.model.toNat → exec (.resUpd t freq vel rel model) s =
      .next (respond .ok [] (withVoice s t ((voiceOf s t).setRes sd
        { r with
          wg := wgdUpdate s.params.wgLen r.wg (fxMul (model.getD 0 0#128) freq) vel
            (rel != 0#128) })))) ∧
    ∃ r', exec (.resClr t) s =
        .next (respond .ok [] (withVoice s t ((voiceOf s t).setRes sd r'))) ∧
      (∀ i < 64, bankGet r'.parts i = { bankGet r.parts i with
        x1 := .zero, x2 := .zero, y1 := .zero, y2 := .zero }) ∧
      (∀ a, r'.wg.buf.read a = 0#128) ∧
      r'.wg = { r.wg with readPtr := 0, writePtr := 0, yPrev := .zero, buf := r'.wg.buf } ∧
      r'.post = { r.post with
        x0 := .zero, x1 := .zero, x2 := .zero, y0 := .zero, y1 := .zero,
        y2 := .zero } ∧
      r' = { r with parts := r'.parts, wg := r'.wg, post := r'.post }

/-- `RES.PROC` (R215, R220): an inactive Resonator answers zeros and nothing moves; an active one
sums the first `npartials` Partials in rising index, or runs the Waveguide, and leaves the other
variant alone; the silence counter and the deactivation follow. -/
def Obligations.ResonatorSample : Prop :=
  ∀ (s : State) (t : Target) (sd : Side) (x0 x1 x2 x3 : Word) (r : Resonator) (x : V4),
    t.wf s.nv [resCode sd] = true → r = (voiceOf s t).res sd → x = ⟨x0, x1, x2, x3⟩ →
    (r.active = false → exec (.resProc t x0 x1 x2 x3) s =
      .next (respond .ok [0#128, 0#128, 0#128, 0#128] (withVoice s t (voiceOf s t)))) ∧
    (r.active = true → ∃ r' y, exec (.resProc t x0 x1 x2 x3) s =
        .next (respond .ok (V4.words y) (withVoice s t ((voiceOf s t).setRes sd r'))) ∧
      (r.model.toNat < 7 → r'.wg = r.wg ∧
        y = (List.range (min 64 r.npartials.toNat)).foldl
          (fun acc i => V4.add acc (prtOut (bankGet r.parts i) x)) V4.zero ∧
        (∀ i < 64, i < r.npartials.toNat →
          bankGet r'.parts i = prtProcess (bankGet r.parts i) x) ∧
        ∀ i < 64, r.npartials.toNat ≤ i → bankGet r'.parts i = bankGet r.parts i) ∧
      (7 ≤ r.model.toNat → r'.parts = r.parts ∧ y = wgdOut r.wg ∧
        r'.wg = wgdProcess s.params.wgLen r.wg x) ∧
      r'.silence = silenceNext s.params.silenceMode r.silence y x ∧
      r'.active = decide ((fxOfInt r'.silence.toNat).toInt < r.srate.toInt) ∧
      r' = { r with
        parts := r'.parts, wg := r'.wg, silence := r'.silence, active := r'.active })

/-- The silence counter of R220 in its two modes: up by the number of loud lanes, saturating; or
back to 0 on a step with a loud lane and up by one on a quiet step. -/
def Obligations.SilenceCounterModes : Prop :=
  ∀ (c : U32) (out inp : V4),
    (silenceNext .loudCounts c out inp).toNat = min 4294967295
      (c.toNat + ([0, 1, 2, 3].countP fun l =>
        decide (cSil.toInt < (fxAdd (fxAbs (out.lane l)) (fxAbs (inp.lane l))).toInt))) ∧
    ((∃ l < 4, cSil.toInt < (fxAdd (fxAbs (out.lane l)) (fxAbs (inp.lane l))).toInt) →
      (silenceNext .quietCounts c out inp).toNat = 0) ∧
    ((∀ l < 4, (fxAdd (fxAbs (out.lane l)) (fxAbs (inp.lane l))).toInt ≤ cSil.toInt) →
      (silenceNext .quietCounts c out inp).toNat = min 4294967295 (c.toNat + 1))

/-! ### Voice -/

/-- `VOI.TRIG` and `VOI.REL` (spec/47_voice.md R237, R238): the clamped note and velocity, the flags,
the exciters, the Resonators cleared and, where they are on, activated, then
`updateResonators`; `frames` is 0 after a trigger and kept by a release. -/
def Obligations.VoiceTriggerAndRelease : Prop :=
  ∀ (s : State) (t : Target) (srate note velocity malletFreq : Word) (v : Voice) (n vl : Int)
    (vel : Fx), t.wf s.nv [0x00#8] = true → v = voiceOf s t →
    n = clampInt note.toInt 0 127 → vl = clampInt velocity.toInt 0 127 →
    vel = fxDiv (fxOfInt vl) (fxOfInt 127) →
    exec (.voiTrig t srate note velocity malletFreq) s =
      .next (respond .ok [] (withVoice s t
        { voiUpdateResonators s.params s.models
            { v with
              note := BitVec.ofInt 7 n
              freq := voiNote2freq n
              vel := vel
              isPressed := true
              isRelease := false
              mallet := mltTrigger v.mallet srate malletFreq
              noise := nseAttack v.noise vel
              resA := if v.resA.on then { resClear v.resA with active := true, silence := 0#32 }
                else resClear v.resA
              resB := if v.resB.on then { resClear v.resB with active := true, silence := 0#32 }
                else resClear v.resB } with
          frames := 0#32 })) ∧
    exec (.voiRel t) s =
      .next (respond .ok [] (withVoice s t (voiUpdateResonators s.params s.models
        { v with
          isRelease := true
          isPressed := false
          noise := { v.noise with env := envReleaseProc v.noise.env } })))

/-- `VOI.PITCH`, `VOI.UPD` and `VOI.CLR` (R239 to R241): the two factors; the two ratio tables pushed
into the Resonators that are on: the model tables scaled by a factor that is not one, and then, if
both Resonators are on and coupling is requested, corrected with the threshold, the voice frequency
and `dy` = `COUPLE_DY(split)`, which is `split` where the parameter is the identity (spec/00_scope.md
R7) and the open function of log entry 6 elsewhere; the clear of the four owned units. -/
def Obligations.VoicePitchUpdateClear : Prop :=
  ∀ (s : State) (t : Target) (coarseA coarseB fineA fineB : Word) (v : Voice)
    (tabs : List Fx × List Fx), t.wf s.nv [0x00#8] = true → v = voiceOf s t →
    tabs = voiTables s.params s.models v →
    exec (.voiPitch t coarseA coarseB fineA fineB) s = .next (respond .ok [] (withVoice s t
      { v with
        pitchA := numPow (fxOfInt 2)
          (fxDiv (fxAdd coarseA (fxDiv fineA (fxOfInt 100))) (fxOfInt 12))
        pitchB := numPow (fxOfInt 2)
          (fxDiv (fxAdd coarseB (fxDiv fineB (fxOfInt 100))) (fxOfInt 12)) })) ∧
    exec (.voiUpd t) s = .next (respond .ok [] (withVoice s t
      { v with
        resA := if v.resA.on then resUpdate s.params.wgLen v.resA v.freq v.vel v.isRelease tabs.1
          else v.resA
        resB := if v.resB.on then resUpdate s.params.wgLen v.resB v.freq v.vel v.isRelease tabs.2
          else v.resB })) ∧
    (∀ (ta tb : List Fx) (dy : Fx),
      dy = (match s.params.coupleLaw with
        | .identity => v.split
        | .other => Config.coupleDyOpen v.split) →
      ta = ((List.range 64).map fun k =>
        if v.pitchA = fxOne then mdlRead s.models .a v.resA.model.toNat k
        else fxMul (mdlRead s.models .a v.resA.model.toNat k) v.pitchA) →
      tb = ((List.range 64).map fun k =>
        if v.pitchB = fxOne then mdlRead s.models .b v.resB.model.toNat k
        else fxMul (mdlRead s.models .b v.resB.model.toNat k) v.pitchB) →
      tabs = if v.resA.on = true ∧ v.resB.on = true ∧ v.couple = true then
          voiCoupleTables s.params.coupleThresh v.freq dy (ta, tb)
        else (ta, tb)) ∧
    exec (.voiClr t) s = .next (respond .ok [] (withVoice s t
      { v with
        mallet := { v.mallet with elapsed := 0, impulse := 0, flt := fltResetOne v.mallet.flt }
        noise := { v.noise with
          env := { v.noise.env with state := .off, env := 0 }, flt := fltResetOne v.noise.flt }
        resA := resClear v.resA
        resB := resClear v.resB }))

/-- The coupling of R240. Pair `(i, j)` has the difference `d i j` of its pre-coupling frequencies,
and within the threshold the shift `r i j`. Entry `i` of table A takes the shifts of its pairs in
rising `j`, entry `j` of table B those of its pairs in rising `i`, with opposite signs: the higher
side goes up, and `d` = 0 counts as A higher. An entry farther than the threshold from every entry
of the other table is unchanged, and the tables keep their length. -/
def Obligations.CouplingLeavesFarEntries : Prop :=
  ∀ (thresh freq dy : Fx) (ta tb : List Fx) (d dx r : Nat → Nat → Fx),
    ta.length = 64 → tb.length = 64 →
    (∀ i j, d i j = fxSub (fxMul (ta.getD i 0#128) freq) (fxMul (tb.getD j 0#128) freq)) →
    (∀ i j, dx i j = fxDiv (fxAbs (d i j)) (fxOfInt 2)) →
    (∀ i j, r i j = fxDiv (fxSub (numSqrt (fxAdd (fxMul (dx i j) (dx i j)) (fxMul dy dy))) (dx i j))
      freq) →
    (voiCoupleTables thresh freq dy (ta, tb)).1.length = 64 ∧
    (voiCoupleTables thresh freq dy (ta, tb)).2.length = 64 ∧
    (∀ i < 64, (voiCoupleTables thresh freq dy (ta, tb)).1.getD i 0#128 =
      (List.range 64).foldl (fun x j =>
        if thresh.toInt < (fxAbs (d i j)).toInt then x
        else if 0 ≤ (d i j).toInt then fxAdd x (r i j) else fxSub x (r i j)) (ta.getD i 0#128)) ∧
    (∀ j < 64, (voiCoupleTables thresh freq dy (ta, tb)).2.getD j 0#128 =
      (List.range 64).foldl (fun y i =>
        if thresh.toInt < (fxAbs (d i j)).toInt then y
        else if 0 ≤ (d i j).toInt then fxSub y (r i j) else fxAdd y (r i j)) (tb.getD j 0#128)) ∧
    (∀ i < 64, (∀ j < 64, thresh.toInt < (fxAbs (d i j)).toInt) →
      (voiCoupleTables thresh freq dy (ta, tb)).1.getD i 0#128 = ta.getD i 0#128) ∧
    ∀ j < 64, (∀ i < 64, thresh.toInt < (fxAbs (d i j)).toInt) →
      (voiCoupleTables thresh freq dy (ta, tb)).2.getD j 0#128 = tb.getD j 0#128

/-! ### Pool, notes and render -/

/-- `POOL.NEXT` (spec/48_pool_render.md R256, R259): it answers the least index among the voices with
the largest `frames`, and writes no state. -/
def Obligations.PoolNextIsFirstMaximum : Prop :=
  ∀ s : State, 1 ≤ s.nv → ∃ i < s.nv,
    exec .poolNext s = .next { s with respOut := s.respOut ++ [0#128, BitVec.ofNat 128 i] } ∧
    (∀ j < s.nv, (voiceAt s.voices j).frames.toNat ≤ (voiceAt s.voices i).frames.toNat) ∧
    ∀ j < i, (voiceAt s.voices j).frames.toNat < (voiceAt s.voices i).frames.toNat

/-- `NOTE.ON` triggers the voice the arbiter names with the global rate and Mallet frequency, and
`NOTE.OFF` releases every voice that is pressed and holds the note and answers their number
(R257, R258). -/
def Obligations.NoteOnAndOff : Prop :=
  ∀ (s : State) (note velocity : Word),
    exec (.noteOn note velocity) s =
      .next (respond .ok [BitVec.ofNat 128 (poolNext s.voices)]
        (setVoice (poolNext s.voices)
          (voiTrigger s.params s.models (voiceAt s.voices (poolNext s.voices)) s.globals.srate
            note.toInt velocity.toInt s.globals.malletFreq) s)) ∧
    ∃ vs c, exec (.noteOff note) s = .next { s with
        voices := vs, respOut := s.respOut ++ [0#128, BitVec.ofNat 128 c] } ∧
      vs.length = s.nv ∧
      c = s.voices.countP (fun v =>
        v.isPressed && decide ((v.note.toNat : Int) = clampInt note.toInt 0 127)) ∧
      ∀ j < s.nv, voiceAt vs j =
        if (voiceAt s.voices j).isPressed = true ∧
            ((voiceAt s.voices j).note.toNat : Int) = clampInt note.toInt 0 127 then
          voiRelease s.params s.models (voiceAt s.voices j)
        else voiceAt s.voices j

/-- When `RENDER` completes, and what it takes (R262, R264): with at least as many `RNGIN` words as
the Envelopes will draw, a number that does not depend on the words, it answers four words a frame,
takes exactly that many words, adds the frames to every counter, saturating, and touches no other
machine state than the voices; with fewer it waits (spec/20_memory.md R69). -/
def Obligations.RenderDrawsAndCompletes : Prop :=
  ∀ (s : State) (frameCount : Word) (n need : Nat),
    n = (clampInt frameCount.toInt 0 4294967295).toNat → need = rngNeeded n (noiseEnvelopes s) →
    (need ≤ s.rngIn.length → ∃ vs ws, exec (.render frameCount) s = .next { s with
        voices := vs, rngIn := s.rngIn.drop need, respOut := s.respOut ++ 0#128 :: ws } ∧
      ws.length = 4 * n ∧ vs.length = s.nv ∧
      ∀ j < s.nv,
        (voiceAt vs j).frames.toNat = min 4294967295 ((voiceAt s.voices j).frames.toNat + n) ∧
        (voiceAt vs j).noise.env = envProcess^[n] (voiceAt s.voices j).noise.env) ∧
    (s.rngIn.length < need → exec (.render frameCount) s = .fault .rngWait)

/-- Rendering in two blocks is rendering in one (R262): the same voices, the same words taken, and
the same result words in the same order. -/
def Obligations.RenderSplitsIntoBlocks : Prop :=
  ∀ (s s1 s2 : State) (m n mn : Word), 0 ≤ m.toInt → 0 ≤ n.toInt →
    m.toInt + n.toInt ≤ 4294967295 → mn.toInt = m.toInt + n.toInt →
    exec (.render m) s = .next s1 → exec (.render n) s1 = .next s2 →
    ∃ s3 w1 w2, exec (.render mn) s = .next s3 ∧ s3.voices = s2.voices ∧ s3.rngIn = s2.rngIn ∧
      s1.respOut = s.respOut ++ 0#128 :: w1 ∧ s2.respOut = s1.respOut ++ 0#128 :: w2 ∧
      s3.respOut = s.respOut ++ 0#128 :: (w1 ++ w2)

/-- A Resonator that is off does not move in a `RENDER`, its delay buffer included, and neither do
the parameters of a voice (R261, R262). -/
def Obligations.RenderSkipsDisabledResonators : Prop :=
  ∀ (s s' : State) (frameCount : Word) (j : Nat), exec (.render frameCount) s = .next s' →
    j < s.nv →
    ((voiceAt s.voices j).resA.on = false → (voiceAt s'.voices j).resA = (voiceAt s.voices j).resA) ∧
    ((voiceAt s.voices j).resB.on = false → (voiceAt s'.voices j).resB = (voiceAt s.voices j).resB) ∧
    ∃ w, w = voiceAt s'.voices j ∧ w = { voiceAt s.voices j with
      mallet := w.mallet, noise := w.noise, resA := w.resA, resB := w.resB, frames := w.frames }

/-- The datapath of one frame (R260 to R262), on any number of voices. `n j`, `ns j` are the Noise
and its sample after voice `j`, `rng j` the words left before it, `e4 j` its excitation, `a j`, `b j`
its post-filtered outputs, `ser j` whether its Resonators are in series, and `dir`, `res` the buses:
the mixes, the routing, the saturating sums in rising index and the output lanes; and what every
voice is after the frame. A `RENDER` of no frames answers the status alone and moves nothing. -/
def Obligations.RenderFrameMix : Prop :=
  (∀ (s : State) (v : Nat → Voice) (n : Nat → Noise) (m ns dir : Nat → Fx) (ser : Nat → Bool)
    (rng : Nat → List Word) (e4 a b inB res : Nat → V4),
    (∀ j, v j = voiceAt s.voices j ∧ m j = (mltProcess (v j).mallet).2 ∧
      ser j = ((v j).resA.on && (v j).resB.on && (v j).couple)) →
    rng 0 = s.rngIn →
    (∀ j < s.nv, nseProcess (v j).noise (rng j) = some (n j, ns j, rng (j + 1))) →
    dir 0 = 0#128 →
    (∀ j < s.nv, dir (j + 1) = fxAdd (dir j) (fxDot
      [((m j).toInt, s.globals.malletMix.toInt), ((ns j).toInt, s.globals.noiseMix.toInt)])) →
    (∀ j < s.nv, e4 j = V4.splat (fxDot
      [((m j).toInt, s.globals.malletRes.toInt), ((ns j).toInt, s.globals.noiseRes.toInt)])) →
    (∀ j < s.nv, a j = if (v j).resA.on then
      (fltDf1Four (v j).resA.post (resProcess s.params (v j).resA (e4 j)).2).y0 else V4.zero) →
    (∀ j < s.nv, inB j = if ser j then a j else e4 j) →
    (∀ j < s.nv, b j = if (v j).resB.on then
      (fltDf1Four (v j).resB.post (resProcess s.params (v j).resB (inB j)).2).y0 else V4.zero) →
    res 0 = V4.zero →
    (∀ j < s.nv, res (j + 1) = V4.add (res j) (if ser j then b j else V4.add (a j) (b j))) →
    ∃ vs, exec (.render 1#128) s = .next { s with
        voices := vs, rngIn := rng s.nv
        respOut := s.respOut ++ 0#128 :: V4.words ((res s.nv).map
          fun x => fxAdd (dir s.nv) (fxMul x s.globals.gain)) } ∧
      vs.length = s.nv ∧
      ∀ j < s.nv, voiceAt vs j = { v j with
        mallet := (mltProcess (v j).mallet).1
        noise := n j
        resA := if (v j).resA.on then { (resProcess s.params (v j).resA (e4 j)).1 with
            post := fltDf1Four (v j).resA.post (resProcess s.params (v j).resA (e4 j)).2 }
          else (v j).resA
        resB := if (v j).resB.on then { (resProcess s.params (v j).resB (inB j)).1 with
            post := fltDf1Four (v j).resB.post (resProcess s.params (v j).resB (inB j)).2 }
          else (v j).resB
        frames := BitVec.ofNat 32 (min 4294967295 ((v j).frames.toNat + 1)) }) ∧
  ∀ (s : State) (frameCount : Word), frameCount.toInt ≤ 0 →
    exec (.render frameCount) s = .next { s with respOut := s.respOut ++ [0#128] }

end
end

