-- ==== Sys2Proof/Laws/Decode.lean ====
section
/-! SUPPORT. The fields of a header that the encoder writes, and the header that the fields make. -/

namespace Sys2Proof

theorem headerOpc_header (opc v u k : BitVec 8) : headerOpc (header opc v u k) = opc := by
  apply BitVec.eq_of_getLsbD_eq
  intro i hi
  simp only [headerOpc, header, BitVec.getLsbD_extractLsb', BitVec.getLsbD_append]
  simp only [hi, decide_true, Bool.true_and]
  rw [if_neg (by omega), if_neg (by omega), if_neg (by omega), if_pos (by omega)]
  congr 1
  omega

theorem headerRsv_header (opc v u k : BitVec 8) : headerRsv (header opc v u k) = 0#96 := by
  apply BitVec.eq_of_getLsbD_eq
  intro i hi
  simp only [headerRsv, header, BitVec.getLsbD_extractLsb', BitVec.getLsbD_append]
  rw [if_neg (by omega), if_neg (by omega), if_neg (by omega), if_neg (by omega)]
  simp

theorem headerTarget_header (opc v u k : BitVec 8) :
    headerTarget (header opc v u k) = { v := v, u := u, k := k } := by
  simp only [headerTarget, Target.mk.injEq]
  refine ⟨?_, ?_, ?_⟩ <;>
    (apply BitVec.eq_of_getLsbD_eq
     intro i hi
     simp only [header, BitVec.getLsbD_extractLsb', BitVec.getLsbD_append, hi, decide_true,
       Bool.true_and])
  · rw [if_neg (by omega), if_neg (by omega), if_pos (by omega)]
    congr 1
    omega
  · rw [if_neg (by omega), if_pos (by omega)]
    congr 1
    omega
  · rw [if_pos (by omega)]
    congr 1
    omega

/-- A header is made of its fields (R80). -/
theorem header_fields (h : Word) (hr : headerRsv h = 0#96) :
    h = header (headerOpc h) (headerTarget h).v (headerTarget h).u (headerTarget h).k := by
  apply BitVec.eq_of_getLsbD_eq
  intro i hi
  have hz : ∀ j, (headerRsv h).getLsbD j = false := by simp [hr]
  simp only [headerRsv, BitVec.getLsbD_extractLsb'] at hz
  simp only [headerOpc, headerTarget, header, BitVec.getLsbD_append]
  split
  · simp only [BitVec.getLsbD_extractLsb']
    simp only [show i < 8 by omega, decide_true, Bool.true_and]
    congr 1
    omega
  · split
    · simp only [BitVec.getLsbD_extractLsb', show i - 8 < 8 by omega, decide_true, Bool.true_and]
      congr 1
      omega
    · split
      · simp only [BitVec.getLsbD_extractLsb', show i - 8 - 8 < 8 by omega, decide_true,
          Bool.true_and]
        congr 1
        omega
      · split
        · simp only [BitVec.getLsbD_extractLsb', show i - 8 - 8 - 8 < 8 by omega, decide_true,
            Bool.true_and]
          congr 1
          omega
        · have := hz (i - 32)
          simp only [show i - 32 < 96 by omega, decide_true, Bool.true_and,
            show 32 + (i - 32) = i by omega] at this
          simp [this]

theorem headerOpc_unitHeader (opc : BitVec 8) (t : Target) : headerOpc (unitHeader opc t) = opc :=
  headerOpc_header ..

theorem headerRsv_unitHeader (opc : BitVec 8) (t : Target) : headerRsv (unitHeader opc t) = 0#96 :=
  headerRsv_header ..

theorem headerTarget_unitHeader (opc : BitVec 8) (t : Target) :
    headerTarget (unitHeader opc t) = t :=
  headerTarget_header ..

/-- A command that passes the checks 1 to 3 (R297), on the words of the port. -/
theorem decode_cons (h : Word) (ops rest : List Word) (kind : RowKind) (n : Nat)
    (hrow : opcodeRow (headerOpc h).toNat = some (kind, n)) (hlen : ops.length = n) :
    decode (h :: (ops ++ rest)) =
      match decodeCommand h ops with
      | .error e => .reject e rest
      | .ok i => .command i rest := by
  subst hlen
  simp only [decode, hrow, List.length_append, List.take_left', List.drop_left',
    if_neg (show ¬ops.length + rest.length < ops.length by omega)]
  all_goals (cases decodeCommand h ops <;> rfl)

theorem decodeCommand_ok (h : Word) (ops : List Word) (kind : RowKind) (n : Nat) (i : Instr)
    (hrow : opcodeRow (headerOpc h).toNat = some (kind, n)) (hr : headerRsv h = 0#96)
    (hf : reservedFieldSet kind (headerTarget h) = false)
    (hb : buildInstr (headerOpc h).toNat (headerTarget h) ops = some i) :
    decodeCommand h ops = .ok i := by
  simp [decodeCommand, hrow, hr, hf, hb]

/-! ### Serial form -/

theorem wordBytes_length (w : Word) : (wordBytes w).length = 16 := by simp [wordBytes]

end Sys2Proof
end

