-- ==== Sys2Proof/Laws/State.lean ====
section
/-! SUPPORT. One lemma for each field and each update of the state, so that no proof unfolds a record
update. -/

namespace Sys2Proof.Machine

/-! ### Updates of the machine -/

@[simp] theorem withCmdIn_globals (s : State) (ws : List Word) :
    (s.withCmdIn ws).globals = s.globals := rfl
@[simp] theorem withCmdIn_voices (s : State) (ws : List Word) :
    (s.withCmdIn ws).voices = s.voices := rfl
@[simp] theorem withCmdIn_models (s : State) (ws : List Word) :
    (s.withCmdIn ws).models = s.models := rfl
@[simp] theorem withCmdIn_params (s : State) (ws : List Word) :
    (s.withCmdIn ws).params = s.params := rfl
@[simp] theorem withCmdIn_cmdIn (s : State) (ws : List Word) : (s.withCmdIn ws).cmdIn = ws := rfl
@[simp] theorem withCmdIn_rngIn (s : State) (ws : List Word) :
    (s.withCmdIn ws).rngIn = s.rngIn := rfl
@[simp] theorem withCmdIn_respOut (s : State) (ws : List Word) :
    (s.withCmdIn ws).respOut = s.respOut := rfl
@[simp] theorem withCmdIn_nv (s : State) (ws : List Word) : (s.withCmdIn ws).nv = s.nv := rfl

@[simp] theorem respond_globals (e : Status) (ws : List Word) (s : State) :
    (respond e ws s).globals = s.globals := rfl
@[simp] theorem respond_voices (e : Status) (ws : List Word) (s : State) :
    (respond e ws s).voices = s.voices := rfl
@[simp] theorem respond_models (e : Status) (ws : List Word) (s : State) :
    (respond e ws s).models = s.models := rfl
@[simp] theorem respond_params (e : Status) (ws : List Word) (s : State) :
    (respond e ws s).params = s.params := rfl
@[simp] theorem respond_cmdIn (e : Status) (ws : List Word) (s : State) :
    (respond e ws s).cmdIn = s.cmdIn := rfl
@[simp] theorem respond_rngIn (e : Status) (ws : List Word) (s : State) :
    (respond e ws s).rngIn = s.rngIn := rfl
@[simp] theorem respond_respOut (e : Status) (ws : List Word) (s : State) :
    (respond e ws s).respOut = s.respOut ++ statusWord e :: ws := rfl
@[simp] theorem respond_nv (e : Status) (ws : List Word) (s : State) :
    (respond e ws s).nv = s.nv := rfl

@[simp] theorem setVoice_globals (i : Nat) (v : Voice) (s : State) :
    (setVoice i v s).globals = s.globals := rfl
@[simp] theorem setVoice_voices (i : Nat) (v : Voice) (s : State) :
    (setVoice i v s).voices = s.voices.set i v := rfl
@[simp] theorem setVoice_models (i : Nat) (v : Voice) (s : State) :
    (setVoice i v s).models = s.models := rfl
@[simp] theorem setVoice_params (i : Nat) (v : Voice) (s : State) :
    (setVoice i v s).params = s.params := rfl
@[simp] theorem setVoice_cmdIn (i : Nat) (v : Voice) (s : State) :
    (setVoice i v s).cmdIn = s.cmdIn := rfl
@[simp] theorem setVoice_rngIn (i : Nat) (v : Voice) (s : State) :
    (setVoice i v s).rngIn = s.rngIn := rfl
@[simp] theorem setVoice_respOut (i : Nat) (v : Voice) (s : State) :
    (setVoice i v s).respOut = s.respOut := rfl
@[simp] theorem setVoice_nv (i : Nat) (v : Voice) (s : State) :
    (setVoice i v s).nv = s.nv := by
  simp [State.nv]

@[simp] theorem resetUnits_globals (s : State) : (resetUnits s).globals = Globals.reset := rfl
@[simp] theorem resetUnits_voices (s : State) :
    (resetUnits s).voices = List.replicate s.nv Voice.reset := rfl
@[simp] theorem resetUnits_models (s : State) : (resetUnits s).models = [] := rfl
@[simp] theorem resetUnits_params (s : State) : (resetUnits s).params = s.params := rfl
@[simp] theorem resetUnits_cmdIn (s : State) : (resetUnits s).cmdIn = s.cmdIn := rfl
@[simp] theorem resetUnits_rngIn (s : State) : (resetUnits s).rngIn = s.rngIn := rfl
@[simp] theorem resetUnits_respOut (s : State) : (resetUnits s).respOut = s.respOut := rfl
@[simp] theorem resetUnits_nv (s : State) : (resetUnits s).nv = s.nv := by
  simp [State.nv]

@[simp] theorem sysFlush_globals (s : State) : (sysFlush s).globals = s.globals := rfl
@[simp] theorem sysFlush_voices (s : State) : (sysFlush s).voices = s.voices.map voiClear := rfl
@[simp] theorem sysFlush_models (s : State) : (sysFlush s).models = s.models := rfl
@[simp] theorem sysFlush_params (s : State) : (sysFlush s).params = s.params := rfl
@[simp] theorem sysFlush_cmdIn (s : State) : (sysFlush s).cmdIn = s.cmdIn := rfl
@[simp] theorem sysFlush_rngIn (s : State) : (sysFlush s).rngIn = s.rngIn := rfl
@[simp] theorem sysFlush_respOut (s : State) : (sysFlush s).respOut = s.respOut := rfl
@[simp] theorem sysFlush_nv (s : State) : (sysFlush s).nv = s.nv := by
  simp [State.nv]

/-! ### Updates of a voice -/

@[simp] theorem Voice.setMallet_note (v : Voice) (m : Mallet) : (v.setMallet m).note = v.note := rfl
@[simp] theorem Voice.setMallet_freq (v : Voice) (m : Mallet) : (v.setMallet m).freq = v.freq := rfl
@[simp] theorem Voice.setMallet_vel (v : Voice) (m : Mallet) : (v.setMallet m).vel = v.vel := rfl
@[simp] theorem Voice.setMallet_isPressed (v : Voice) (m : Mallet) :
    (v.setMallet m).isPressed = v.isPressed := rfl
@[simp] theorem Voice.setMallet_isRelease (v : Voice) (m : Mallet) :
    (v.setMallet m).isRelease = v.isRelease := rfl
@[simp] theorem Voice.setMallet_couple (v : Voice) (m : Mallet) :
    (v.setMallet m).couple = v.couple := rfl
@[simp] theorem Voice.setMallet_split (v : Voice) (m : Mallet) :
    (v.setMallet m).split = v.split := rfl
@[simp] theorem Voice.setMallet_pitchA (v : Voice) (m : Mallet) :
    (v.setMallet m).pitchA = v.pitchA := rfl
@[simp] theorem Voice.setMallet_pitchB (v : Voice) (m : Mallet) :
    (v.setMallet m).pitchB = v.pitchB := rfl
@[simp] theorem Voice.setMallet_frames (v : Voice) (m : Mallet) :
    (v.setMallet m).frames = v.frames := rfl
@[simp] theorem Voice.setMallet_mallet (v : Voice) (m : Mallet) : (v.setMallet m).mallet = m := rfl
@[simp] theorem Voice.setMallet_noise (v : Voice) (m : Mallet) :
    (v.setMallet m).noise = v.noise := rfl
@[simp] theorem Voice.setMallet_resA (v : Voice) (m : Mallet) : (v.setMallet m).resA = v.resA := rfl
@[simp] theorem Voice.setMallet_resB (v : Voice) (m : Mallet) : (v.setMallet m).resB = v.resB := rfl

@[simp] theorem Voice.setMallet_res (v : Voice) (m : Mallet) (sd : Side) :
    (v.setMallet m).res sd = v.res sd := by
  cases sd <;> rfl

@[simp] theorem Voice.setNoise_note (v : Voice) (n : Noise) : (v.setNoise n).note = v.note := rfl
@[simp] theorem Voice.setNoise_freq (v : Voice) (n : Noise) : (v.setNoise n).freq = v.freq := rfl
@[simp] theorem Voice.setNoise_vel (v : Voice) (n : Noise) : (v.setNoise n).vel = v.vel := rfl
@[simp] theorem Voice.setNoise_isPressed (v : Voice) (n : Noise) :
    (v.setNoise n).isPressed = v.isPressed := rfl
@[simp] theorem Voice.setNoise_isRelease (v : Voice) (n : Noise) :
    (v.setNoise n).isRelease = v.isRelease := rfl
@[simp] theorem Voice.setNoise_couple (v : Voice) (n : Noise) :
    (v.setNoise n).couple = v.couple := rfl
@[simp] theorem Voice.setNoise_split (v : Voice) (n : Noise) : (v.setNoise n).split = v.split := rfl
@[simp] theorem Voice.setNoise_pitchA (v : Voice) (n : Noise) :
    (v.setNoise n).pitchA = v.pitchA := rfl
@[simp] theorem Voice.setNoise_pitchB (v : Voice) (n : Noise) :
    (v.setNoise n).pitchB = v.pitchB := rfl
@[simp] theorem Voice.setNoise_frames (v : Voice) (n : Noise) :
    (v.setNoise n).frames = v.frames := rfl
@[simp] theorem Voice.setNoise_mallet (v : Voice) (n : Noise) :
    (v.setNoise n).mallet = v.mallet := rfl
@[simp] theorem Voice.setNoise_noise (v : Voice) (n : Noise) : (v.setNoise n).noise = n := rfl
@[simp] theorem Voice.setNoise_resA (v : Voice) (n : Noise) : (v.setNoise n).resA = v.resA := rfl
@[simp] theorem Voice.setNoise_resB (v : Voice) (n : Noise) : (v.setNoise n).resB = v.resB := rfl

@[simp] theorem Voice.setNoise_res (v : Voice) (n : Noise) (sd : Side) :
    (v.setNoise n).res sd = v.res sd := by
  cases sd <;> rfl

@[simp] theorem Voice.setEnv_note (v : Voice) (e : Envelope) : (v.setEnv e).note = v.note := rfl
@[simp] theorem Voice.setEnv_freq (v : Voice) (e : Envelope) : (v.setEnv e).freq = v.freq := rfl
@[simp] theorem Voice.setEnv_vel (v : Voice) (e : Envelope) : (v.setEnv e).vel = v.vel := rfl
@[simp] theorem Voice.setEnv_isPressed (v : Voice) (e : Envelope) :
    (v.setEnv e).isPressed = v.isPressed := rfl
@[simp] theorem Voice.setEnv_isRelease (v : Voice) (e : Envelope) :
    (v.setEnv e).isRelease = v.isRelease := rfl
@[simp] theorem Voice.setEnv_couple (v : Voice) (e : Envelope) :
    (v.setEnv e).couple = v.couple := rfl
@[simp] theorem Voice.setEnv_split (v : Voice) (e : Envelope) : (v.setEnv e).split = v.split := rfl
@[simp] theorem Voice.setEnv_pitchA (v : Voice) (e : Envelope) :
    (v.setEnv e).pitchA = v.pitchA := rfl
@[simp] theorem Voice.setEnv_pitchB (v : Voice) (e : Envelope) :
    (v.setEnv e).pitchB = v.pitchB := rfl
@[simp] theorem Voice.setEnv_frames (v : Voice) (e : Envelope) :
    (v.setEnv e).frames = v.frames := rfl
@[simp] theorem Voice.setEnv_mallet (v : Voice) (e : Envelope) :
    (v.setEnv e).mallet = v.mallet := rfl
@[simp] theorem Voice.setEnv_noise (v : Voice) (e : Envelope) :
    (v.setEnv e).noise = { v.noise with env := e } := rfl
@[simp] theorem Voice.setEnv_resA (v : Voice) (e : Envelope) : (v.setEnv e).resA = v.resA := rfl
@[simp] theorem Voice.setEnv_resB (v : Voice) (e : Envelope) : (v.setEnv e).resB = v.resB := rfl

@[simp] theorem Voice.setEnv_res (v : Voice) (e : Envelope) (sd : Side) :
    (v.setEnv e).res sd = v.res sd := by
  cases sd <;> rfl

@[simp] theorem Voice.setMalletFlt_note (v : Voice) (f : BiquadFilter Fx) :
    (v.setMalletFlt f).note = v.note := rfl
@[simp] theorem Voice.setMalletFlt_freq (v : Voice) (f : BiquadFilter Fx) :
    (v.setMalletFlt f).freq = v.freq := rfl
@[simp] theorem Voice.setMalletFlt_vel (v : Voice) (f : BiquadFilter Fx) :
    (v.setMalletFlt f).vel = v.vel := rfl
@[simp] theorem Voice.setMalletFlt_isPressed (v : Voice) (f : BiquadFilter Fx) :
    (v.setMalletFlt f).isPressed = v.isPressed := rfl
@[simp] theorem Voice.setMalletFlt_isRelease (v : Voice) (f : BiquadFilter Fx) :
    (v.setMalletFlt f).isRelease = v.isRelease := rfl
@[simp] theorem Voice.setMalletFlt_couple (v : Voice) (f : BiquadFilter Fx) :
    (v.setMalletFlt f).couple = v.couple := rfl
@[simp] theorem Voice.setMalletFlt_split (v : Voice) (f : BiquadFilter Fx) :
    (v.setMalletFlt f).split = v.split := rfl
@[simp] theorem Voice.setMalletFlt_pitchA (v : Voice) (f : BiquadFilter Fx) :
    (v.setMalletFlt f).pitchA = v.pitchA := rfl
@[simp] theorem Voice.setMalletFlt_pitchB (v : Voice) (f : BiquadFilter Fx) :
    (v.setMalletFlt f).pitchB = v.pitchB := rfl
@[simp] theorem Voice.setMalletFlt_frames (v : Voice) (f : BiquadFilter Fx) :
    (v.setMalletFlt f).frames = v.frames := rfl
@[simp] theorem Voice.setMalletFlt_mallet (v : Voice) (f : BiquadFilter Fx) :
    (v.setMalletFlt f).mallet = { v.mallet with flt := f } := rfl
@[simp] theorem Voice.setMalletFlt_noise (v : Voice) (f : BiquadFilter Fx) :
    (v.setMalletFlt f).noise = v.noise := rfl
@[simp] theorem Voice.setMalletFlt_resA (v : Voice) (f : BiquadFilter Fx) :
    (v.setMalletFlt f).resA = v.resA := rfl
@[simp] theorem Voice.setMalletFlt_resB (v : Voice) (f : BiquadFilter Fx) :
    (v.setMalletFlt f).resB = v.resB := rfl

@[simp] theorem Voice.setMalletFlt_res (v : Voice) (f : BiquadFilter Fx) (sd : Side) :
    (v.setMalletFlt f).res sd = v.res sd := by
  cases sd <;> rfl

@[simp] theorem Voice.setNoiseFlt_note (v : Voice) (f : BiquadFilter Fx) :
    (v.setNoiseFlt f).note = v.note := rfl
@[simp] theorem Voice.setNoiseFlt_freq (v : Voice) (f : BiquadFilter Fx) :
    (v.setNoiseFlt f).freq = v.freq := rfl
@[simp] theorem Voice.setNoiseFlt_vel (v : Voice) (f : BiquadFilter Fx) :
    (v.setNoiseFlt f).vel = v.vel := rfl
@[simp] theorem Voice.setNoiseFlt_isPressed (v : Voice) (f : BiquadFilter Fx) :
    (v.setNoiseFlt f).isPressed = v.isPressed := rfl
@[simp] theorem Voice.setNoiseFlt_isRelease (v : Voice) (f : BiquadFilter Fx) :
    (v.setNoiseFlt f).isRelease = v.isRelease := rfl
@[simp] theorem Voice.setNoiseFlt_couple (v : Voice) (f : BiquadFilter Fx) :
    (v.setNoiseFlt f).couple = v.couple := rfl
@[simp] theorem Voice.setNoiseFlt_split (v : Voice) (f : BiquadFilter Fx) :
    (v.setNoiseFlt f).split = v.split := rfl
@[simp] theorem Voice.setNoiseFlt_pitchA (v : Voice) (f : BiquadFilter Fx) :
    (v.setNoiseFlt f).pitchA = v.pitchA := rfl
@[simp] theorem Voice.setNoiseFlt_pitchB (v : Voice) (f : BiquadFilter Fx) :
    (v.setNoiseFlt f).pitchB = v.pitchB := rfl
@[simp] theorem Voice.setNoiseFlt_frames (v : Voice) (f : BiquadFilter Fx) :
    (v.setNoiseFlt f).frames = v.frames := rfl
@[simp] theorem Voice.setNoiseFlt_mallet (v : Voice) (f : BiquadFilter Fx) :
    (v.setNoiseFlt f).mallet = v.mallet := rfl
@[simp] theorem Voice.setNoiseFlt_noise (v : Voice) (f : BiquadFilter Fx) :
    (v.setNoiseFlt f).noise = { v.noise with flt := f } := rfl
@[simp] theorem Voice.setNoiseFlt_resA (v : Voice) (f : BiquadFilter Fx) :
    (v.setNoiseFlt f).resA = v.resA := rfl
@[simp] theorem Voice.setNoiseFlt_resB (v : Voice) (f : BiquadFilter Fx) :
    (v.setNoiseFlt f).resB = v.resB := rfl

@[simp] theorem Voice.setNoiseFlt_res (v : Voice) (f : BiquadFilter Fx) (sd : Side) :
    (v.setNoiseFlt f).res sd = v.res sd := by
  cases sd <;> rfl

@[simp] theorem Voice.setRes_note (v : Voice) (sd : Side) (r : Resonator) :
    (v.setRes sd r).note = v.note := by
  cases sd <;> rfl
@[simp] theorem Voice.setRes_freq (v : Voice) (sd : Side) (r : Resonator) :
    (v.setRes sd r).freq = v.freq := by
  cases sd <;> rfl
@[simp] theorem Voice.setRes_vel (v : Voice) (sd : Side) (r : Resonator) :
    (v.setRes sd r).vel = v.vel := by
  cases sd <;> rfl
@[simp] theorem Voice.setRes_isPressed (v : Voice) (sd : Side) (r : Resonator) :
    (v.setRes sd r).isPressed = v.isPressed := by
  cases sd <;> rfl
@[simp] theorem Voice.setRes_isRelease (v : Voice) (sd : Side) (r : Resonator) :
    (v.setRes sd r).isRelease = v.isRelease := by
  cases sd <;> rfl
@[simp] theorem Voice.setRes_couple (v : Voice) (sd : Side) (r : Resonator) :
    (v.setRes sd r).couple = v.couple := by
  cases sd <;> rfl
@[simp] theorem Voice.setRes_split (v : Voice) (sd : Side) (r : Resonator) :
    (v.setRes sd r).split = v.split := by
  cases sd <;> rfl
@[simp] theorem Voice.setRes_pitchA (v : Voice) (sd : Side) (r : Resonator) :
    (v.setRes sd r).pitchA = v.pitchA := by
  cases sd <;> rfl
@[simp] theorem Voice.setRes_pitchB (v : Voice) (sd : Side) (r : Resonator) :
    (v.setRes sd r).pitchB = v.pitchB := by
  cases sd <;> rfl
@[simp] theorem Voice.setRes_frames (v : Voice) (sd : Side) (r : Resonator) :
    (v.setRes sd r).frames = v.frames := by
  cases sd <;> rfl
@[simp] theorem Voice.setRes_mallet (v : Voice) (sd : Side) (r : Resonator) :
    (v.setRes sd r).mallet = v.mallet := by
  cases sd <;> rfl
@[simp] theorem Voice.setRes_noise (v : Voice) (sd : Side) (r : Resonator) :
    (v.setRes sd r).noise = v.noise := by
  cases sd <;> rfl
@[simp] theorem Voice.setRes_res_same (v : Voice) (sd : Side) (r : Resonator) :
    (v.setRes sd r).res sd = r := by
  cases sd <;> rfl

theorem Voice.setRes_res_other (v : Voice) (sd sd' : Side) (r : Resonator) (h : sd' ≠ sd) :
    (v.setRes sd r).res sd' = v.res sd' := by
  cases sd <;> cases sd' <;> first | rfl | exact absurd rfl h

@[simp] theorem Voice.setWg_note (v : Voice) (sd : Side) (w : Waveguide) :
    (v.setWg sd w).note = v.note := by
  cases sd <;> rfl
@[simp] theorem Voice.setWg_freq (v : Voice) (sd : Side) (w : Waveguide) :
    (v.setWg sd w).freq = v.freq := by
  cases sd <;> rfl
@[simp] theorem Voice.setWg_vel (v : Voice) (sd : Side) (w : Waveguide) :
    (v.setWg sd w).vel = v.vel := by
  cases sd <;> rfl
@[simp] theorem Voice.setWg_isPressed (v : Voice) (sd : Side) (w : Waveguide) :
    (v.setWg sd w).isPressed = v.isPressed := by
  cases sd <;> rfl
@[simp] theorem Voice.setWg_isRelease (v : Voice) (sd : Side) (w : Waveguide) :
    (v.setWg sd w).isRelease = v.isRelease := by
  cases sd <;> rfl
@[simp] theorem Voice.setWg_couple (v : Voice) (sd : Side) (w : Waveguide) :
    (v.setWg sd w).couple = v.couple := by
  cases sd <;> rfl
@[simp] theorem Voice.setWg_split (v : Voice) (sd : Side) (w : Waveguide) :
    (v.setWg sd w).split = v.split := by
  cases sd <;> rfl
@[simp] theorem Voice.setWg_pitchA (v : Voice) (sd : Side) (w : Waveguide) :
    (v.setWg sd w).pitchA = v.pitchA := by
  cases sd <;> rfl
@[simp] theorem Voice.setWg_pitchB (v : Voice) (sd : Side) (w : Waveguide) :
    (v.setWg sd w).pitchB = v.pitchB := by
  cases sd <;> rfl
@[simp] theorem Voice.setWg_frames (v : Voice) (sd : Side) (w : Waveguide) :
    (v.setWg sd w).frames = v.frames := by
  cases sd <;> rfl
@[simp] theorem Voice.setWg_mallet (v : Voice) (sd : Side) (w : Waveguide) :
    (v.setWg sd w).mallet = v.mallet := by
  cases sd <;> rfl
@[simp] theorem Voice.setWg_noise (v : Voice) (sd : Side) (w : Waveguide) :
    (v.setWg sd w).noise = v.noise := by
  cases sd <;> rfl
@[simp] theorem Voice.setWg_res_same (v : Voice) (sd : Side) (w : Waveguide) :
    (v.setWg sd w).res sd = { v.res sd with wg := w } := by
  cases sd <;> rfl

theorem Voice.setWg_res_other (v : Voice) (sd sd' : Side) (w : Waveguide) (h : sd' ≠ sd) :
    (v.setWg sd w).res sd' = v.res sd' := by
  cases sd <;> cases sd' <;> first | rfl | exact absurd rfl h

@[simp] theorem Voice.setPost_note (v : Voice) (sd : Side) (f : BiquadFilter V4) :
    (v.setPost sd f).note = v.note := by
  cases sd <;> rfl
@[simp] theorem Voice.setPost_freq (v : Voice) (sd : Side) (f : BiquadFilter V4) :
    (v.setPost sd f).freq = v.freq := by
  cases sd <;> rfl
@[simp] theorem Voice.setPost_vel (v : Voice) (sd : Side) (f : BiquadFilter V4) :
    (v.setPost sd f).vel = v.vel := by
  cases sd <;> rfl
@[simp] theorem Voice.setPost_isPressed (v : Voice) (sd : Side) (f : BiquadFilter V4) :
    (v.setPost sd f).isPressed = v.isPressed := by
  cases sd <;> rfl
@[simp] theorem Voice.setPost_isRelease (v : Voice) (sd : Side) (f : BiquadFilter V4) :
    (v.setPost sd f).isRelease = v.isRelease := by
  cases sd <;> rfl
@[simp] theorem Voice.setPost_couple (v : Voice) (sd : Side) (f : BiquadFilter V4) :
    (v.setPost sd f).couple = v.couple := by
  cases sd <;> rfl
@[simp] theorem Voice.setPost_split (v : Voice) (sd : Side) (f : BiquadFilter V4) :
    (v.setPost sd f).split = v.split := by
  cases sd <;> rfl
@[simp] theorem Voice.setPost_pitchA (v : Voice) (sd : Side) (f : BiquadFilter V4) :
    (v.setPost sd f).pitchA = v.pitchA := by
  cases sd <;> rfl
@[simp] theorem Voice.setPost_pitchB (v : Voice) (sd : Side) (f : BiquadFilter V4) :
    (v.setPost sd f).pitchB = v.pitchB := by
  cases sd <;> rfl
@[simp] theorem Voice.setPost_frames (v : Voice) (sd : Side) (f : BiquadFilter V4) :
    (v.setPost sd f).frames = v.frames := by
  cases sd <;> rfl
@[simp] theorem Voice.setPost_mallet (v : Voice) (sd : Side) (f : BiquadFilter V4) :
    (v.setPost sd f).mallet = v.mallet := by
  cases sd <;> rfl
@[simp] theorem Voice.setPost_noise (v : Voice) (sd : Side) (f : BiquadFilter V4) :
    (v.setPost sd f).noise = v.noise := by
  cases sd <;> rfl
@[simp] theorem Voice.setPost_res_same (v : Voice) (sd : Side) (f : BiquadFilter V4) :
    (v.setPost sd f).res sd = { v.res sd with post := f } := by
  cases sd <;> rfl

theorem Voice.setPost_res_other (v : Voice) (sd sd' : Side) (f : BiquadFilter V4) (h : sd' ≠ sd) :
    (v.setPost sd f).res sd' = v.res sd' := by
  cases sd <;> cases sd' <;> first | rfl | exact absurd rfl h

@[simp] theorem Voice.setPart_note (v : Voice) (sd : Side) (i : Nat) (p : Partial) :
    (v.setPart sd i p).note = v.note := by
  cases sd <;> rfl
@[simp] theorem Voice.setPart_freq (v : Voice) (sd : Side) (i : Nat) (p : Partial) :
    (v.setPart sd i p).freq = v.freq := by
  cases sd <;> rfl
@[simp] theorem Voice.setPart_vel (v : Voice) (sd : Side) (i : Nat) (p : Partial) :
    (v.setPart sd i p).vel = v.vel := by
  cases sd <;> rfl
@[simp] theorem Voice.setPart_isPressed (v : Voice) (sd : Side) (i : Nat) (p : Partial) :
    (v.setPart sd i p).isPressed = v.isPressed := by
  cases sd <;> rfl
@[simp] theorem Voice.setPart_isRelease (v : Voice) (sd : Side) (i : Nat) (p : Partial) :
    (v.setPart sd i p).isRelease = v.isRelease := by
  cases sd <;> rfl
@[simp] theorem Voice.setPart_couple (v : Voice) (sd : Side) (i : Nat) (p : Partial) :
    (v.setPart sd i p).couple = v.couple := by
  cases sd <;> rfl
@[simp] theorem Voice.setPart_split (v : Voice) (sd : Side) (i : Nat) (p : Partial) :
    (v.setPart sd i p).split = v.split := by
  cases sd <;> rfl
@[simp] theorem Voice.setPart_pitchA (v : Voice) (sd : Side) (i : Nat) (p : Partial) :
    (v.setPart sd i p).pitchA = v.pitchA := by
  cases sd <;> rfl
@[simp] theorem Voice.setPart_pitchB (v : Voice) (sd : Side) (i : Nat) (p : Partial) :
    (v.setPart sd i p).pitchB = v.pitchB := by
  cases sd <;> rfl
@[simp] theorem Voice.setPart_frames (v : Voice) (sd : Side) (i : Nat) (p : Partial) :
    (v.setPart sd i p).frames = v.frames := by
  cases sd <;> rfl
@[simp] theorem Voice.setPart_mallet (v : Voice) (sd : Side) (i : Nat) (p : Partial) :
    (v.setPart sd i p).mallet = v.mallet := by
  cases sd <;> rfl
@[simp] theorem Voice.setPart_noise (v : Voice) (sd : Side) (i : Nat) (p : Partial) :
    (v.setPart sd i p).noise = v.noise := by
  cases sd <;> rfl
@[simp] theorem Voice.setPart_res_same (v : Voice) (sd : Side) (i : Nat) (p : Partial) :
    (v.setPart sd i p).res sd = { v.res sd with parts := bankSet (v.res sd).parts i p } := by
  cases sd <;> rfl

theorem Voice.setPart_res_other (v : Voice) (sd sd' : Side) (i : Nat) (p : Partial) (h : sd' ≠ sd) :
    (v.setPart sd i p).res sd' = v.res sd' := by
  cases sd <;> cases sd' <;> first | rfl | exact absurd rfl h

@[simp] theorem Voice.res_a (v : Voice) : v.res .a = v.resA := rfl
@[simp] theorem Voice.res_b (v : Voice) : v.res .b = v.resB := rfl

/-! ### Reading one voice of a list -/

theorem voiceAt_set_same (vs : List Voice) (i : Nat) (v : Voice) (h : i < vs.length) :
    voiceAt (vs.set i v) i = v := by
  simp [voiceAt, h]

theorem voiceAt_set_other (vs : List Voice) (i j : Nat) (v : Voice) (h : j ≠ i) :
    voiceAt (vs.set i v) j = voiceAt vs j := by
  simp [voiceAt, Ne.symm h]

theorem voiceAt_mem (vs : List Voice) (i : Nat) (h : i < vs.length) : voiceAt vs i ∈ vs := by
  simp [voiceAt, h]

end Sys2Proof.Machine
end

