-- ==== Sys2Proof/Laws/Ops.lean ====
section
/-! SUPPORT. What each shared operation can do, said once: the target checks, a command on a unit, the
two ways a command ends, and the bank of Partials. -/

namespace Sys2Proof.Machine

/-! ### The target checks -/

theorem isPartialUnit_iff (u : BitVec 8) :
    isPartialUnit u = true ↔ u = 0x13#8 ∨ u = 0x23#8 := by
  simp [isPartialUnit]

theorem Target.wf_iff (nv : Nat) (us : List (BitVec 8)) (t : Target) :
    t.wf nv us = true ↔
      t.v.toNat < nv ∧ t.u ∈ us ∧ (t.u = 0x13#8 ∨ t.u = 0x23#8 → t.k.toNat ≤ 63) ∧
        (¬(t.u = 0x13#8 ∨ t.u = 0x23#8) → t.k = 0#8) := by
  unfold Target.wf
  by_cases hp : t.u = 0x13#8 ∨ t.u = 0x23#8
  · simp [(isPartialUnit_iff t.u).2 hp, hp, and_assoc]
  · have : isPartialUnit t.u = false := by
      simpa [isPartialUnit] using hp
    simp [this, hp, and_assoc]

/-- A legal target passes the checks, and the selector names a unit. -/
theorem checkTarget_wf {α : Type} (sel : BitVec 8 → Option α) (us : List (BitVec 8)) (nv : Nat)
    (t : Target) (a : α) (h : t.wf nv us = true) (hs : sel t.u = some a) :
    checkTarget sel nv t = .ok a := by
  obtain ⟨hv, -, hk, hk0⟩ := (Target.wf_iff nv us t).1 h
  simp only [checkTarget, if_neg (Nat.not_le.2 hv), hs]
  by_cases hp : t.u = 0x13#8 ∨ t.u = 0x23#8
  · have := hk hp
    simp only [if_pos hp, if_neg (show ¬63 < t.k.toNat by omega)]
  · simp only [if_neg hp, if_neg (not_not.2 (hk0 hp))]

/-- What `checkTarget` accepts is a voice that exists and a unit the selector names. -/
theorem checkTarget_ok {α : Type} {sel : BitVec 8 → Option α} {nv : Nat} {t : Target} {a : α}
    (h : checkTarget sel nv t = .ok a) :
    t.v.toNat < nv ∧ sel t.u = some a ∧
      (t.u = 0x13#8 ∨ t.u = 0x23#8 → t.k.toNat ≤ 63) ∧
      (¬(t.u = 0x13#8 ∨ t.u = 0x23#8) → t.k = 0#8) := by
  unfold checkTarget at h
  split at h
  · cases h
  · split at h
    · cases h
    · next hv _ b hb =>
      split at h
      · next hp =>
        split at h
        · cases h
        · next hk =>
          cases h
          exact ⟨by omega, hb, fun _ => by omega, fun hn => absurd hp hn⟩
      · next hp =>
        split at h
        · cases h
        · next hk =>
          cases h
          exact ⟨by omega, hb, fun hq => absurd hq hp, fun _ => not_not.1 hk⟩

/-! ### How a command ends -/

theorem raiseError_eq (e : Status) (s : State) : raiseError e s = .next (respond e [] s) := rfl

theorem complete_eq (ws : List Word) (s : State) : complete ws s = .next (respond .ok ws s) := rfl

/-- A command on a legal unit completes, with what its function gives. -/
theorem atVoice_wf {α : Type} (sel : BitVec 8 → Option α) (us : List (BitVec 8)) (t : Target)
    (s : State) (f : α → Voice → Voice × List Word) (a : α) (h : t.wf s.nv us = true)
    (hs : sel t.u = some a) :
    atVoice sel t s f =
      .next (respond .ok (f a (voiceAt s.voices t.v.toNat)).2
        (setVoice t.v.toNat (f a (voiceAt s.voices t.v.toNat)).1 s)) := by
  simp only [atVoice, checkTarget_wf sel us s.nv t a h hs, complete]

/-- All that a command on a unit can do: answer a status and change nothing else, or change the
one voice it addresses and answer `OK`. -/
theorem atVoice_cases {α : Type} (sel : BitVec 8 → Option α) (t : Target) (s : State)
    (f : α → Voice → Voice × List Word) :
    (∃ e, e ≠ Status.ok ∧ atVoice sel t s f = .next (respond e [] s)) ∨
    (∃ a, sel t.u = some a ∧ t.v.toNat < s.nv ∧
      (t.u = 0x13#8 ∨ t.u = 0x23#8 → t.k.toNat ≤ 63) ∧
      atVoice sel t s f =
        .next (respond .ok (f a (voiceAt s.voices t.v.toNat)).2
          (setVoice t.v.toNat (f a (voiceAt s.voices t.v.toNat)).1 s))) := by
  cases hc : checkTarget sel s.nv t with
  | error e =>
    refine .inl ⟨e, ?_, by simp only [atVoice, hc, raiseError]⟩
    rintro rfl
    unfold checkTarget at hc
    split at hc
    · cases hc
    · split at hc
      · cases hc
      · split at hc <;> split at hc <;> cases hc
  | ok a =>
    obtain ⟨hv, hs, hk, -⟩ := checkTarget_ok hc
    exact .inr ⟨a, hs, hv, hk, by simp only [atVoice, hc, complete]⟩

/-! ### Selectors -/

theorem unitOfCode_isSome (u : BitVec 8) : (unitOfCode u).isSome = allUnits.contains u := by
  revert u
  decide

/-- The selector of a code that names a unit. -/
theorem unitOfCode_cases {u : BitVec 8} {sel : UnitSel} (h : unitOfCode u = some sel) :
    (u, sel) ∈ [(0x00#8, UnitSel.voice), (0x01#8, .mallet), (0x02#8, .malletFlt),
      (0x03#8, .noise), (0x04#8, .noiseFlt), (0x05#8, .noiseEnv), (0x10#8, .res .a),
      (0x11#8, .post .a), (0x12#8, .wg .a), (0x13#8, .part .a), (0x20#8, .res .b),
      (0x21#8, .post .b), (0x22#8, .wg .b), (0x23#8, .part .b)] := by
  revert sel
  revert u
  decide +revert

/-! ### The bank of Partials -/

theorem bankGet_eq (b : Bank) (i : Nat) (h : i < 64) : bankGet b i = b[i] := by
  simp [bankGet, Config.npart, h]

theorem bankGet_bankSet_same (b : Bank) (i : Nat) (p : Partial) (h : i < 64) :
    bankGet (bankSet b i p) i = p := by
  rw [bankGet_eq _ _ h]
  simp [bankSet]

theorem bankGet_bankSet_other (b : Bank) (i j : Nat) (p : Partial) (h : j ≠ i) :
    bankGet (bankSet b i p) j = bankGet b j := by
  by_cases hj : j < 64
  · rw [bankGet_eq _ _ hj, bankGet_eq _ _ hj]
    simp [bankSet, Ne.symm h]
  · simp [bankGet, Config.npart, hj]

theorem bankGet_bankMapBelow (n : Nat) (f : Nat → Partial → Partial) (b : Bank) (i : Nat)
    (h : i < 64) :
    bankGet (bankMapBelow n f b) i = if i < n then f i (bankGet b i) else bankGet b i := by
  rw [bankGet_eq _ _ h, bankGet_eq _ _ h]
  simp [bankMapBelow]

end Sys2Proof.Machine
end

