-- ==== Sys2Proof/Laws/Exec.lean ====
section
/-! SUPPORT. How a command on a unit can end, said once for all of them. -/

namespace Sys2Proof.Machine

/-! ### Selectors -/

theorem selVoice_isSome (u : BitVec 8) : (selVoice u).isSome = [0x00#8].contains u := by
  revert u
  decide

theorem selMallet_isSome (u : BitVec 8) : (selMallet u).isSome = [0x01#8].contains u := by
  revert u
  decide

theorem selNoise_isSome (u : BitVec 8) : (selNoise u).isSome = [0x03#8].contains u := by
  revert u
  decide

theorem selEnv_isSome (u : BitVec 8) : (selEnv u).isSome = [0x05#8].contains u := by
  revert u
  decide

theorem selRes_isSome (u : BitVec 8) : (selRes u).isSome = [0x10#8, 0x20#8].contains u := by
  revert u
  decide

theorem selWg_isSome (u : BitVec 8) : (selWg u).isSome = [0x12#8, 0x22#8].contains u := by
  revert u
  decide

theorem selPart_isSome (u : BitVec 8) : (selPart u).isSome = [0x13#8, 0x23#8].contains u := by
  revert u
  decide

theorem selFilter_isSome (u : BitVec 8) : (selFilter u).isSome = filterUnits.contains u := by
  revert u
  decide

/-! ### The target checks -/

theorem checkTarget_error {α : Type} {sel : BitVec 8 → Option α} {nv : Nat} {t : Target}
    {e : Status} (h : checkTarget sel nv t = .error e) : e ≠ .ok := by
  rintro rfl
  unfold checkTarget at h
  split at h
  · cases h
  · split at h
    · cases h
    · split at h <;> split at h <;> cases h

theorem checkTarget_ok_wf {α : Type} {sel : BitVec 8 → Option α} {us : List (BitVec 8)}
    (hs : ∀ u, (sel u).isSome = us.contains u) {nv : Nat} {t : Target} {a : α}
    (h : checkTarget sel nv t = .ok a) : t.wf nv us = true := by
  obtain ⟨hv, hu, hk, hk0⟩ := checkTarget_ok h
  refine (Target.wf_iff ..).2 ⟨hv, ?_, hk, hk0⟩
  simpa [hu] using (hs t.u).symm

theorem setVoice_self (i : Nat) (s : State) (h : i < s.nv) :
    setVoice i (voiceAt s.voices i) s = s := by
  have : s.voices.set i (voiceAt s.voices i) = s.voices := by
    apply List.ext_getElem (by simp)
    intro j h1 h2
    rw [List.getElem_set]
    split
    · subst_vars
      simp [voiceAt, h2]
    · rfl
  simp only [setVoice, this]

/-! ### The draw of a Noise -/

/-- All that `nse_process` can do about `RNGIN` (R176). -/
theorem nseProcess_cases (u : Noise) (rng : List Word) :
    (nseProcess u rng = none ∧ u.env.state ≠ .off ∧ rng = []) ∨
    (nseProcess u rng = some (u, 0#128, rng) ∧ u.env.state = .off) ∨
    ∃ r rest, rng = r :: rest ∧ u.env.state ≠ .off ∧
      nseProcess u rng = some ((nseSample u r).1, (nseSample u r).2, rest) := by
  unfold nseProcess
  split
  · next h => exact .inr (.inl ⟨rfl, h⟩)
  · next h =>
    cases rng with
    | nil => exact .inl ⟨rfl, by simpa using h, rfl⟩
    | cons r rest => exact .inr (.inr ⟨r, rest, rfl, by simpa using h, rfl⟩)

/-! ### Commands on a unit -/

/-- The three ways a command `i` on the unit `t` can end: a status other than `OK` and nothing else
changed; a wait on `RNGIN`; or the one voice it names changed, the words `drawn` taken, and `OK`
answered with the result words of its row. -/
def UnitEnds (i : Instr) (t : Target) (us : List (BitVec 8)) (s : State) (r : Result) : Prop :=
  (∃ e, e ≠ Status.ok ∧ r = .next (respond e [] s)) ∨
  (r = .fault .rngWait ∧ i = .nseProc t) ∨
  ∃ v ws rng drawn, t.wf s.nv us = true ∧
    r = .next (respond .ok ws { setVoice t.v.toNat v s with rngIn := rng }) ∧
    ws.length = resultCount i ∧ s.rngIn = drawn ++ rng ∧ ((∀ t', i ≠ .nseProc t') → drawn = [])

theorem atVoice_ends {α : Type} (i : Instr) (sel : BitVec 8 → Option α) (us : List (BitVec 8))
    (hs : ∀ u, (sel u).isSome = us.contains u) (t : Target) (s : State)
    (f : α → Voice → Voice × List Word) (hn : ∀ x v, (f x v).2.length = resultCount i) :
    UnitEnds i t us s (atVoice sel t s f) := by
  cases hc : checkTarget sel s.nv t with
  | error e => exact .inl ⟨e, checkTarget_error hc, by simp only [atVoice, hc, raiseError]⟩
  | ok x =>
    exact .inr (.inr ⟨_, _, s.rngIn, [], checkTarget_ok_wf hs hc,
      by simp only [atVoice, hc, complete]; rfl, hn _ _, rfl, fun _ => rfl⟩)

theorem execStRd_ends (t : Target) (field : Word) (s : State) :
    UnitEnds (.stRd t field) t allUnits s (execStRd t field s) := by
  cases hc : checkTarget unitOfCode s.nv t with
  | error e => exact .inl ⟨e, checkTarget_error hc, by simp only [execStRd, hc, raiseError]⟩
  | ok sel =>
    cases hr : (opField field).bind
        (readUnit s.params.wgLen sel t.k.toNat (voiceAt s.voices t.v.toNat)) with
    | none => exact .inl ⟨.field, by decide, by simp only [execStRd, hc, hr, raiseError]⟩
    | some w =>
      refine .inr (.inr ⟨voiceAt s.voices t.v.toNat, [w], s.rngIn, [],
        checkTarget_ok_wf unitOfCode_isSome hc, ?_, rfl, rfl, fun _ => rfl⟩)
      rw [setVoice_self _ _ (checkTarget_ok hc).1]
      simp only [execStRd, hc, hr, complete]

theorem execStWr_ends (t : Target) (field value : Word) (s : State) :
    UnitEnds (.stWr t field value) t allUnits s (execStWr t field value s) := by
  cases hc : checkTarget unitOfCode s.nv t with
  | error e => exact .inl ⟨e, checkTarget_error hc, by simp only [execStWr, hc, raiseError]⟩
  | ok sel =>
    cases hr : (opField field).bind
        (writeUnit s.params.wgLen sel t.k.toNat (voiceAt s.voices t.v.toNat) value) with
    | none => exact .inl ⟨.field, by decide, by simp only [execStWr, hc, hr, raiseError]⟩
    | some v =>
      exact .inr (.inr ⟨v, [], s.rngIn, [], checkTarget_ok_wf unitOfCode_isSome hc,
        by simp only [execStWr, hc, hr, complete]; rfl, rfl, rfl, fun _ => rfl⟩)

theorem execNseProc_ends (t : Target) (s : State) :
    UnitEnds (.nseProc t) t [0x03#8] s (execNseProc t s) := by
  cases hc : checkTarget selNoise s.nv t with
  | error e => exact .inl ⟨e, checkTarget_error hc, by simp only [execNseProc, hc, raiseError]⟩
  | ok x =>
    rcases nseProcess_cases (voiceAt s.voices t.v.toNat).noise s.rngIn with
      ⟨hp, -, -⟩ | ⟨hp, -⟩ | ⟨r, rest, hr, -, hp⟩
    · exact .inr (.inl ⟨by simp only [execNseProc, hc, hp], rfl⟩)
    · exact .inr (.inr ⟨_, [0#128], s.rngIn, [], checkTarget_ok_wf selNoise_isSome hc,
        by simp only [execNseProc, hc, hp, complete]; rfl, rfl, rfl, fun _ => rfl⟩)
    · exact .inr (.inr ⟨_, [_], rest, [r], checkTarget_ok_wf selNoise_isSome hc,
        by simp only [execNseProc, hc, hp, complete]; rfl, rfl, hr, fun h => absurd rfl (h t)⟩)

/-- How any command on a unit ends. -/
theorem exec_unit_ends (i : Instr) (s : State) (t : Target) (us : List (BitVec 8))
    (h : unitTarget i = some (t, us)) : UnitEnds i t us s (exec i s) := by
  cases i
  all_goals try (cases h; done)
  all_goals obtain ⟨rfl, rfl⟩ := Prod.mk.inj (Option.some.inj h)
  all_goals simp only [exec]
  case stRd t field => exact execStRd_ends t field s
  case stWr t field value => exact execStWr_ends t field value s
  case nseProc t => exact execNseProc_ends t s
  all_goals simp only [execEnvInit, execEnvAtk, execEnvDec, execEnvSus, execEnvRel, execEnvProc,
    execEnvRst, atEnv, execFltLp, execFltBp, execFltHp, execFltDf1, execFltClr, execFltRst, atFilter,
    execMltTrig, execMltProc, execMltClr, execNseInit, execNseAtk, execNseRel, execNseClr,
    execPrtUpd, execPrtProc, execPrtClr, atPartial, execWgdUpd, execWgdProc, execWgdClr,
    atWaveguide, execResSetp, execResAct, execResUpd, execResProc, execResClr, atResonator,
    execVoiTrig, execVoiRel, execVoiPitch, execVoiUpd, execVoiClr]
  all_goals first
    | (apply atVoice_ends (us := [0x00#8]) (hs := selVoice_isSome); intro x v; rfl)
    | (apply atVoice_ends (us := [0x01#8]) (hs := selMallet_isSome); intro x v; rfl)
    | (apply atVoice_ends (us := [0x03#8]) (hs := selNoise_isSome); intro x v; rfl)
    | (apply atVoice_ends (us := [0x05#8]) (hs := selEnv_isSome); intro x v; rfl)
    | (apply atVoice_ends (us := [0x10#8, 0x20#8]) (hs := selRes_isSome); intro x v; rfl)
    | (apply atVoice_ends (us := [0x12#8, 0x22#8]) (hs := selWg_isSome); intro x v; rfl)
    | (apply atVoice_ends (us := [0x13#8, 0x23#8]) (hs := selPart_isSome); intro x v; rfl)
    | (apply atVoice_ends (us := filterUnits) (hs := selFilter_isSome); intro x v
       rcases x with _ | _ | _ <;> rfl)

end Sys2Proof.Machine
end

