-- ==== Sys2Proof/Laws/Memory.lean ====
section
/-! SUPPORT. What the memory operations do: a read after a write, and the canonical form, which every
operation keeps. -/

namespace Sys2Proof.Machine

/-! ### The canonical form -/

theorem Memory.wf_iff (m : Memory) :
    m.wf = true ↔ m.Pairwise (fun x y => x.1 < y.1) ∧ ∀ c ∈ m, c.2 ≠ Memory.unlisted := by
  simp [Memory.wf]

theorem Memory.below_iff (n : Nat) (m : Memory) :
    m.below n = true ↔ ∀ c ∈ m, c.1 < n := by
  simp [Memory.below]

theorem Memory.wf_nil : Memory.wf [] = true := by simp [Memory.wf]

theorem Memory.below_nil (n : Nat) : Memory.below n [] = true := by simp [Memory.below]

theorem Memory.wf_tail {c : Nat × Word} {m : Memory} (h : Memory.wf (c :: m) = true) :
    Memory.wf m = true := by
  rw [Memory.wf_iff] at *
  exact ⟨h.1.of_cons, fun d hd => h.2 d (List.mem_cons_of_mem _ hd)⟩

/-- An address below every listed one reads as the unlisted value. -/
theorem Memory.read_eq_unlisted (m : Memory) (a : Nat) (h : ∀ c ∈ m, a < c.1) :
    m.read a = Memory.unlisted := by
  induction m with
  | nil => rfl
  | cons c cs ih =>
    have h1 := h c List.mem_cons_self
    simp only [Memory.read, if_neg (show ¬c.1 = a by omega)]
    exact ih fun d hd => h d (List.mem_cons_of_mem _ hd)

/-! ### Read after write -/

/-- A read of the address just written gives the word written. -/
theorem Memory.read_write_same (m : Memory) (a : Nat) (w : Word) (h : m.wf = true) :
    (m.write a w).read a = w := by
  induction m with
  | nil =>
    by_cases hw : w = Memory.unlisted <;> simp [Memory.write, Memory.read, hw]
  | cons c cs ih =>
    have hs := (Memory.wf_iff _).1 h
    have hlt : ∀ d ∈ cs, c.1 < d.1 := fun d hd => List.rel_of_pairwise_cons hs.1 hd
    simp only [Memory.write]
    split
    · next h1 => simp [Memory.read, Nat.ne_of_lt h1, ih (Memory.wf_tail h)]
    · next h1 =>
      split
      · next h2 =>
        split
        · next hw =>
          rw [Memory.read_eq_unlisted _ _ fun d hd => h2 ▸ hlt d hd, hw]
        · simp [Memory.read]
      · next h2 =>
        split
        · next hw =>
          rw [Memory.read_eq_unlisted, hw]
          intro d hd
          rcases List.mem_cons.1 hd with rfl | hd
          · omega
          · have := hlt d hd
            omega
        · simp [Memory.read]

/-- A write leaves every other address alone. -/
theorem Memory.read_write_other (m : Memory) (a b : Nat) (w : Word) (h : b ≠ a) :
    (m.write a w).read b = m.read b := by
  induction m with
  | nil => by_cases hw : w = Memory.unlisted <;> simp [Memory.write, Memory.read, hw, Ne.symm h]
  | cons c cs ih =>
    simp only [Memory.write]
    split
    · simp [Memory.read, ih]
    · split
      · next h2 =>
        subst h2
        split <;> simp [Memory.read, Ne.symm h]
      · split <;> simp [Memory.read, Ne.symm h]

theorem Memory.read_write (m : Memory) (a b : Nat) (w : Word) (h : m.wf = true) :
    (m.write a w).read b = if b = a then w else m.read b := by
  split
  · next hb => rw [hb, Memory.read_write_same m a w h]
  · next hb => exact Memory.read_write_other m a b w hb

/-! ### A write keeps the canonical form -/

theorem Memory.mem_write {m : Memory} {a : Nat} {w : Word} {c : Nat × Word}
    (h : c ∈ m.write a w) : (c = (a, w) ∧ w ≠ Memory.unlisted) ∨ c ∈ m := by
  induction m with
  | nil =>
    by_cases hw : w = Memory.unlisted <;> simp_all [Memory.write]
  | cons d ds ih =>
    simp only [Memory.write] at h
    split at h
    · rcases List.mem_cons.1 h with rfl | h
      · exact .inr List.mem_cons_self
      · exact (ih h).imp id (List.mem_cons_of_mem _)
    · split at h
      · split at h
        · exact .inr (List.mem_cons_of_mem _ h)
        · next hw =>
          rcases List.mem_cons.1 h with rfl | h
          · exact .inl ⟨rfl, hw⟩
          · exact .inr (List.mem_cons_of_mem _ h)
      · split at h
        · exact .inr h
        · next hw =>
          rcases List.mem_cons.1 h with rfl | h
          · exact .inl ⟨rfl, hw⟩
          · exact .inr h

theorem Memory.write_wf (m : Memory) (a : Nat) (w : Word) (h : m.wf = true) :
    (m.write a w).wf = true := by
  have hs := (Memory.wf_iff _).1 h
  rw [Memory.wf_iff]
  refine ⟨?_, fun c hc => ?_⟩
  · clear h
    induction m with
    | nil => by_cases hw : w = Memory.unlisted <;> simp [Memory.write, hw]
    | cons c cs ih =>
      have hlt : ∀ d ∈ cs, c.1 < d.1 := fun d hd => List.rel_of_pairwise_cons hs.1 hd
      have ih := ih ⟨hs.1.of_cons, fun d hd => hs.2 d (List.mem_cons_of_mem _ hd)⟩
      simp only [Memory.write]
      split
      · next h1 =>
        refine List.pairwise_cons.2 ⟨fun d hd => ?_, ih⟩
        rcases Memory.mem_write hd with ⟨rfl, -⟩ | hd
        · exact h1
        · exact hlt d hd
      · split
        · next h1 h2 =>
          split
          · exact hs.1.of_cons
          · exact List.pairwise_cons.2 ⟨fun d hd => h2 ▸ hlt d hd, hs.1.of_cons⟩
        · next h1 h2 =>
          split
          · exact hs.1
          · refine List.pairwise_cons.2 ⟨fun d hd => ?_, hs.1⟩
            rcases List.mem_cons.1 hd with rfl | hd
            · show a < d.1
              omega
            · have := hlt d hd
              show a < d.1
              omega
  · rcases Memory.mem_write hc with ⟨rfl, hw⟩ | hc
    · exact hw
    · exact hs.2 c hc

theorem Memory.write_below (m : Memory) (n a : Nat) (w : Word) (h : m.below n = true)
    (ha : a < n) : (m.write a w).below n = true := by
  rw [Memory.below_iff] at *
  intro c hc
  rcases Memory.mem_write hc with ⟨rfl, -⟩ | hc
  · exact ha
  · exact h c hc

/-- Two memories in canonical form that read alike are equal. -/
theorem Memory.ext_read (m n : Memory) (hm : m.wf = true) (hn : n.wf = true)
    (h : ∀ a, m.read a = n.read a) : m = n := by
  induction m generalizing n with
  | nil =>
    cases n with
    | nil => rfl
    | cons d ds =>
      have := h d.1
      simp only [Memory.read, if_true] at this
      exact absurd this.symm (((Memory.wf_iff _).1 hn).2 d List.mem_cons_self)
  | cons c cs ih =>
    have hc := (Memory.wf_iff _).1 hm
    have hltc : ∀ d ∈ cs, c.1 < d.1 := fun d hd => List.rel_of_pairwise_cons hc.1 hd
    cases n with
    | nil =>
      have := h c.1
      simp only [Memory.read, if_true] at this
      exact absurd this (hc.2 c List.mem_cons_self)
    | cons d ds =>
      have hd := (Memory.wf_iff _).1 hn
      have hltd : ∀ e ∈ ds, d.1 < e.1 := fun e he => List.rel_of_pairwise_cons hd.1 he
      have h1 := h c.1
      have h2 := h d.1
      simp only [Memory.read, if_true] at h1 h2
      have hcd : c.1 = d.1 := by
        rcases Nat.lt_trichotomy c.1 d.1 with hlt | heq | hgt
        · rw [if_neg (by omega), Memory.read_eq_unlisted ds c.1
            fun e he => by have := hltd e he; omega] at h1
          exact absurd h1 (hc.2 c List.mem_cons_self)
        · exact heq
        · rw [if_neg (by omega), Memory.read_eq_unlisted cs d.1
            fun e he => by have := hltc e he; omega] at h2
          exact absurd h2.symm (hd.2 d List.mem_cons_self)
      rw [if_pos hcd.symm] at h1
      have hrest : cs = ds := by
        refine ih ds (Memory.wf_tail hm) (Memory.wf_tail hn) fun a => ?_
        have h3 := h a
        simp only [Memory.read] at h3
        by_cases ha : c.1 = a
        · rw [Memory.read_eq_unlisted cs a fun e he => ha ▸ hltc e he,
            Memory.read_eq_unlisted ds a fun e he => ha ▸ hcd ▸ hltd e he]
        · rwa [if_neg ha, if_neg (hcd ▸ ha)] at h3
      rw [hrest, Prod.ext hcd h1]

/-! ### The delay buffer -/

theorem wgWrite_wf (buf : Memory) (a : Nat) (v : V4) (h : buf.wf = true) :
    (wgWrite buf a v).wf = true :=
  Memory.write_wf _ _ _ (Memory.write_wf _ _ _ (Memory.write_wf _ _ _ (Memory.write_wf _ _ _ h)))

theorem wgWrite_below (buf : Memory) (n a : Nat) (v : V4) (h : buf.below (4 * n) = true)
    (ha : a < n) : (wgWrite buf a v).below (4 * n) = true :=
  Memory.write_below _ _ _ _ (Memory.write_below _ _ _ _ (Memory.write_below _ _ _ _
    (Memory.write_below _ _ _ _ h (by omega)) (by omega)) (by omega)) (by omega)

/-- A word outside the entry written reads as before. -/
theorem wgWrite_read_other (buf : Memory) (a b : Nat) (v : V4) (h : b / 4 ≠ a) :
    (wgWrite buf a v).read b = buf.read b := by
  unfold wgWrite
  rw [Memory.read_write_other _ _ _ _ (by omega), Memory.read_write_other _ _ _ _ (by omega),
    Memory.read_write_other _ _ _ _ (by omega), Memory.read_write_other _ _ _ _ (by omega)]

theorem wgRead_wgWrite_same (buf : Memory) (a : Nat) (v : V4) (h : buf.wf = true) :
    wgRead (wgWrite buf a v) a = v := by
  have h0 := Memory.write_wf buf (4 * a) v.l0 h
  have h1 := Memory.write_wf _ (4 * a + 1) v.l1 h0
  have h2 := Memory.write_wf _ (4 * a + 2) v.l2 h1
  unfold wgRead wgWrite
  rw [Memory.read_write _ _ _ _ h2, Memory.read_write _ _ _ _ h2, Memory.read_write _ _ _ _ h2,
    Memory.read_write _ _ _ _ h2, Memory.read_write _ _ _ _ h1, Memory.read_write _ _ _ _ h1,
    Memory.read_write _ _ _ _ h1, Memory.read_write _ _ _ _ h0, Memory.read_write _ _ _ _ h0,
    Memory.read_write _ _ _ _ h]
  simp

theorem wgRead_wgWrite_other (buf : Memory) (a b : Nat) (v : V4) (h : b ≠ a) :
    wgRead (wgWrite buf a v) b = wgRead buf b := by
  unfold wgRead
  rw [wgWrite_read_other _ _ _ _ (by omega), wgWrite_read_other _ _ _ _ (by omega),
    wgWrite_read_other _ _ _ _ (by omega), wgWrite_read_other _ _ _ _ (by omega)]

/-! ### The model memory -/

theorem mdlAddr_lt (sd : Side) (m e : Nat) (hm : m ≤ 63) (he : e ≤ 63) : mdlAddr sd m e < 8192 := by
  cases sd <;> simp only [mdlAddr] <;> omega

theorem mdlAddr_inj (sd sd' : Side) (m m' e e' : Nat) (hm : m ≤ 63) (he : e ≤ 63) (hm' : m' ≤ 63)
    (he' : e' ≤ 63) (h : mdlAddr sd m e = mdlAddr sd' m' e') : sd = sd' ∧ m = m' ∧ e = e' := by
  cases sd <;> cases sd' <;> simp only [mdlAddr] at h <;>
    first | (exfalso; omega) | exact ⟨rfl, by omega, by omega⟩

theorem mdlRead_mdlWrite_same (models : Memory) (sd : Side) (m e : Nat) (x : Fx)
    (h : models.wf = true) : mdlRead (mdlWrite models sd m e x) sd m e = x :=
  Memory.read_write_same _ _ _ h

theorem mdlRead_mdlWrite_other (models : Memory) (sd sd' : Side) (m m' e e' : Nat) (x : Fx)
    (hm : m ≤ 63) (he : e ≤ 63) (hm' : m' ≤ 63) (he' : e' ≤ 63)
    (h : ¬(sd' = sd ∧ m' = m ∧ e' = e)) :
    mdlRead (mdlWrite models sd m e x) sd' m' e' = mdlRead models sd' m' e' :=
  Memory.read_write_other _ _ _ _ fun heq =>
    h (mdlAddr_inj sd' sd m' m e' e hm' he' hm he heq)

theorem mdlWrite_wf (models : Memory) (sd : Side) (m e : Nat) (x : Fx) (h : models.wf = true) :
    (mdlWrite models sd m e x).wf = true :=
  Memory.write_wf _ _ _ h

theorem mdlWrite_below (models : Memory) (sd : Side) (m e : Nat) (x : Fx) (hm : m ≤ 63)
    (he : e ≤ 63) (h : models.below 8192 = true) :
    (mdlWrite models sd m e x).below 8192 = true :=
  Memory.write_below _ _ _ _ h (mdlAddr_lt sd m e hm he)

theorem mdlTable_length (models : Memory) (sd : Side) (m : Nat) :
    (mdlTable models sd m).length = 64 := by
  simp [mdlTable, Config.mdlLen]

end Sys2Proof.Machine
end

