-- ==== Sys2Proof/Laws/Num.lean ====
section
/-! SUPPORT. The values of `NUM` that spec/92_eei_decisions.md D3 (log entry 22) and
spec/44_partial.md R191 (log entry 23) fix, and the open functions everywhere else. -/

namespace Sys2Proof.Machine

@[simp] theorem numExp_zero : numExp 0#128 = fxOne := by
  unfold numExp; exact if_pos rfl

@[simp] theorem numLn_one : numLn fxOne = 0#128 := by
  unfold numLn; exact if_pos rfl

@[simp] theorem numSin_zero : numSin 0#128 = 0#128 := by
  unfold numSin; exact if_pos rfl

@[simp] theorem numCos_zero : numCos 0#128 = fxOne := by
  unfold numCos; exact if_pos rfl

@[simp] theorem numSqrt_zero : numSqrt 0#128 = 0#128 := by
  unfold numSqrt; exact if_pos rfl

@[simp] theorem numSqrt_one : numSqrt fxOne = fxOne := by
  unfold numSqrt; rw [if_neg (by decide), if_pos rfl]

@[simp] theorem numPow_one_zero : numPow fxOne 0#128 = fxOne := by
  unfold numPow; rw [if_neg (by decide), if_pos ⟨rfl, rfl⟩]

theorem numExp_of_ne {x : Fx} (h : x ≠ 0#128) : numExp x = Config.numExpOpen x := by
  unfold numExp; exact if_neg h

theorem numLn_of_ne {x : Fx} (h : x ≠ fxOne) : numLn x = Config.numLnOpen x := by
  unfold numLn; exact if_neg h

theorem numSin_of_ne {x : Fx} (h : x ≠ 0#128) : numSin x = Config.numSinOpen x := by
  unfold numSin; exact if_neg h

theorem numCos_of_ne {x : Fx} (h : x ≠ 0#128) : numCos x = Config.numCosOpen x := by
  unfold numCos; exact if_neg h

theorem numSqrt_of_ne {x : Fx} (h : x ≠ 0#128) (h1 : x ≠ fxOne) :
    numSqrt x = Config.numSqrtOpen x := by
  unfold numSqrt; rw [if_neg h, if_neg h1]

end Sys2Proof.Machine
end

