-- ==== Sys2Proof/Laws/PerInstr.lean ====
section
/-! SUPPORT. Facts about commands as syntax, one lemma per command. -/

namespace Sys2Proof.Laws.EncodeLength

/-- The length of a command on the port is `1 + n_op`, `n_op` being that of its opcode, whatever
the operands are (spec/30_encoding.md R88). -/
def Statement (i : Instr) : Prop :=
  ∀ nv : Nat, i.wf nv = true →
    (encode i).length = 1 + headerNOp ((encode i).headD 0#128)

/-- The opcode of a header fixes how many operand words follow it (R84). -/
theorem nOp_of_header (opc v u k : BitVec 8) (kind : RowKind) (n : Nat)
    (h : opcodeRow opc.toNat = some (kind, n)) : headerNOp (header opc v u k) = n := by
  simp [headerNOp, headerOpc_header, h]

theorem nOp_of_unitHeader (opc : BitVec 8) (t : Target) (kind : RowKind) (n : Nat)
    (h : opcodeRow opc.toNat = some (kind, n)) : headerNOp (unitHeader opc t) = n :=
  nOp_of_header opc t.v t.u t.k kind n h

theorem length_of_nOp {ws : List Word} {n : Nat} (h : headerNOp (ws.headD 0#128) = n)
    (hl : ws.length = 1 + n) : ws.length = 1 + headerNOp (ws.headD 0#128) := by
  rw [h, hl]

theorem nop : Statement .nop := fun _ _ =>
  length_of_nOp (nOp_of_header 0x00 _ _ _ .plain 0 rfl) rfl

theorem sysReset : Statement .sysReset := fun _ _ =>
  length_of_nOp (nOp_of_header 0x01 _ _ _ .plain 0 rfl) rfl

theorem cfgWr (k : BitVec 8) (value : Word) : Statement (.cfgWr k value) := fun _ _ =>
  length_of_nOp (nOp_of_header 0x02 _ _ _ .cfg 1 rfl) rfl

theorem cfgRd (k : BitVec 8) : Statement (.cfgRd k) := fun _ _ =>
  length_of_nOp (nOp_of_header 0x03 _ _ _ .cfg 0 rfl) rfl

theorem stRd (t : Target) (field : Word) : Statement (.stRd t field) := fun _ _ =>
  length_of_nOp (nOp_of_unitHeader 0x04 t .unit 1 rfl) rfl

theorem stWr (t : Target) (field value : Word) : Statement (.stWr t field value) := fun _ _ =>
  length_of_nOp (nOp_of_unitHeader 0x05 t .unit 2 rfl) rfl

theorem sysSuspend : Statement .sysSuspend := fun _ _ =>
  length_of_nOp (nOp_of_header 0x06 _ _ _ .plain 0 rfl) rfl

theorem sysResume : Statement .sysResume := fun _ _ =>
  length_of_nOp (nOp_of_header 0x07 _ _ _ .plain 0 rfl) rfl

theorem mdlWr (u : BitVec 8) (m e value : Word) : Statement (.mdlWr u m e value) := fun _ _ =>
  length_of_nOp (nOp_of_header 0x08 _ _ _ .side 3 rfl) rfl

theorem mdlRd (u : BitVec 8) (m e : Word) : Statement (.mdlRd u m e) := fun _ _ =>
  length_of_nOp (nOp_of_header 0x09 _ _ _ .side 2 rfl) rfl

theorem envInit (t : Target) (srate attackMs decayMs sustainDb releaseMs tAtt tDec tRel : Word) :
    Statement (.envInit t srate attackMs decayMs sustainDb releaseMs tAtt tDec tRel) := fun _ _ =>
  length_of_nOp (nOp_of_unitHeader 0x10 t .unit 8 rfl) rfl

theorem envAtk (t : Target) (scale : Word) : Statement (.envAtk t scale) := fun _ _ =>
  length_of_nOp (nOp_of_unitHeader 0x11 t .unit 1 rfl) rfl

theorem envDec (t : Target) : Statement (.envDec t) := fun _ _ =>
  length_of_nOp (nOp_of_unitHeader 0x12 t .unit 0 rfl) rfl

theorem envSus (t : Target) : Statement (.envSus t) := fun _ _ =>
  length_of_nOp (nOp_of_unitHeader 0x13 t .unit 0 rfl) rfl

theorem envRel (t : Target) : Statement (.envRel t) := fun _ _ =>
  length_of_nOp (nOp_of_unitHeader 0x14 t .unit 0 rfl) rfl

theorem envProc (t : Target) : Statement (.envProc t) := fun _ _ =>
  length_of_nOp (nOp_of_unitHeader 0x15 t .unit 0 rfl) rfl

theorem envRst (t : Target) : Statement (.envRst t) := fun _ _ =>
  length_of_nOp (nOp_of_unitHeader 0x16 t .unit 0 rfl) rfl

theorem fltLp (t : Target) (srate freq q : Word) : Statement (.fltLp t srate freq q) := fun _ _ =>
  length_of_nOp (nOp_of_unitHeader 0x20 t .unit 3 rfl) rfl

theorem fltBp (t : Target) (srate freq q : Word) : Statement (.fltBp t srate freq q) := fun _ _ =>
  length_of_nOp (nOp_of_unitHeader 0x21 t .unit 3 rfl) rfl

theorem fltHp (t : Target) (srate freq q : Word) : Statement (.fltHp t srate freq q) := fun _ _ =>
  length_of_nOp (nOp_of_unitHeader 0x22 t .unit 3 rfl) rfl

theorem fltDf1 (t : Target) (in0 in1 in2 in3 : Word) : Statement (.fltDf1 t in0 in1 in2 in3) :=
    fun _ _ =>
  length_of_nOp (nOp_of_unitHeader 0x23 t .unit 4 rfl) rfl

theorem fltClr (t : Target) (in0 in1 in2 in3 : Word) : Statement (.fltClr t in0 in1 in2 in3) :=
    fun _ _ =>
  length_of_nOp (nOp_of_unitHeader 0x24 t .unit 4 rfl) rfl

theorem fltRst (t : Target) : Statement (.fltRst t) := fun _ _ =>
  length_of_nOp (nOp_of_unitHeader 0x25 t .unit 0 rfl) rfl

theorem mltTrig (t : Target) (srate freq : Word) : Statement (.mltTrig t srate freq) := fun _ _ =>
  length_of_nOp (nOp_of_unitHeader 0x30 t .unit 2 rfl) rfl

theorem mltProc (t : Target) : Statement (.mltProc t) := fun _ _ =>
  length_of_nOp (nOp_of_unitHeader 0x31 t .unit 0 rfl) rfl

theorem mltClr (t : Target) : Statement (.mltClr t) := fun _ _ =>
  length_of_nOp (nOp_of_unitHeader 0x32 t .unit 0 rfl) rfl

theorem nseInit (t : Target) (srate mode freq q attackMs decayMs sustainDb releaseMs velFreq velQ
    : Word) : Statement (.nseInit t srate mode freq q attackMs decayMs sustainDb releaseMs velFreq
    velQ) := fun _ _ =>
  length_of_nOp (nOp_of_unitHeader 0x40 t .unit 10 rfl) rfl

theorem nseAtk (t : Target) (vel : Word) : Statement (.nseAtk t vel) := fun _ _ =>
  length_of_nOp (nOp_of_unitHeader 0x41 t .unit 1 rfl) rfl

theorem nseProc (t : Target) : Statement (.nseProc t) := fun _ _ =>
  length_of_nOp (nOp_of_unitHeader 0x42 t .unit 0 rfl) rfl

theorem nseRel (t : Target) : Statement (.nseRel t) := fun _ _ =>
  length_of_nOp (nOp_of_unitHeader 0x43 t .unit 0 rfl) rfl

theorem nseClr (t : Target) : Statement (.nseClr t) := fun _ _ =>
  length_of_nOp (nOp_of_unitHeader 0x44 t .unit 0 rfl) rfl

theorem prtUpd (t : Target) (f0 ratio ratioMax vel isRelease : Word) : Statement (.prtUpd t f0
    ratio ratioMax vel isRelease) := fun _ _ =>
  length_of_nOp (nOp_of_unitHeader 0x50 t .unit 5 rfl) rfl

theorem prtProc (t : Target) (in0 in1 in2 in3 : Word) : Statement (.prtProc t in0 in1 in2 in3) :=
    fun _ _ =>
  length_of_nOp (nOp_of_unitHeader 0x51 t .unit 4 rfl) rfl

theorem prtClr (t : Target) : Statement (.prtClr t) := fun _ _ =>
  length_of_nOp (nOp_of_unitHeader 0x52 t .unit 0 rfl) rfl

theorem wgdUpd (t : Target) (f0 vel isRelease : Word) : Statement (.wgdUpd t f0 vel isRelease) :=
    fun _ _ =>
  length_of_nOp (nOp_of_unitHeader 0x60 t .unit 3 rfl) rfl

theorem wgdProc (t : Target) (in0 in1 in2 in3 : Word) : Statement (.wgdProc t in0 in1 in2 in3) :=
    fun _ _ =>
  length_of_nOp (nOp_of_unitHeader 0x61 t .unit 4 rfl) rfl

theorem wgdClr (t : Target) : Statement (.wgdClr t) := fun _ _ =>
  length_of_nOp (nOp_of_unitHeader 0x62 t .unit 0 rfl) rfl

theorem resSetp (t : Target) (srate on model npartials decay damp tone hit rel inharm cut radius0
    radius1 radius2 radius3 velDecay velHit velInharm : Word) : Statement (.resSetp t srate on
    model npartials decay damp tone hit rel inharm cut radius0 radius1 radius2 radius3 velDecay
    velHit velInharm) := fun _ _ =>
  length_of_nOp (nOp_of_unitHeader 0x70 t .unit 18 rfl) rfl

theorem resAct (t : Target) : Statement (.resAct t) := fun _ _ =>
  length_of_nOp (nOp_of_unitHeader 0x71 t .unit 0 rfl) rfl

theorem resUpd (t : Target) (freq vel isRelease : Word) (model : List Word) :
    Statement (.resUpd t freq vel isRelease model) := by
  intro nv h
  have hm : model.length = 64 := by
    simp only [Instr.wf, Bool.and_eq_true, beq_iff_eq] at h
    exact h.2
  exact length_of_nOp (ws := unitHeader 0x72 t :: freq :: vel :: isRelease :: model)
    (nOp_of_unitHeader 0x72 t .unit 67 rfl) (by simp [hm])

theorem resProc (t : Target) (in0 in1 in2 in3 : Word) : Statement (.resProc t in0 in1 in2 in3) :=
    fun _ _ =>
  length_of_nOp (nOp_of_unitHeader 0x73 t .unit 4 rfl) rfl

theorem resClr (t : Target) : Statement (.resClr t) := fun _ _ =>
  length_of_nOp (nOp_of_unitHeader 0x74 t .unit 0 rfl) rfl

theorem voiTrig (t : Target) (srate note velocity malletFreq : Word) : Statement (.voiTrig t srate
    note velocity malletFreq) := fun _ _ =>
  length_of_nOp (nOp_of_unitHeader 0x80 t .unit 4 rfl) rfl

theorem voiRel (t : Target) : Statement (.voiRel t) := fun _ _ =>
  length_of_nOp (nOp_of_unitHeader 0x81 t .unit 0 rfl) rfl

theorem voiPitch (t : Target) (coarseA coarseB fineA fineB : Word) : Statement (.voiPitch t
    coarseA coarseB fineA fineB) := fun _ _ =>
  length_of_nOp (nOp_of_unitHeader 0x82 t .unit 4 rfl) rfl

theorem voiUpd (t : Target) : Statement (.voiUpd t) := fun _ _ =>
  length_of_nOp (nOp_of_unitHeader 0x83 t .unit 0 rfl) rfl

theorem voiClr (t : Target) : Statement (.voiClr t) := fun _ _ =>
  length_of_nOp (nOp_of_unitHeader 0x84 t .unit 0 rfl) rfl

theorem poolNext : Statement .poolNext := fun _ _ =>
  length_of_nOp (nOp_of_header 0x90 _ _ _ .plain 0 rfl) rfl

theorem noteOn (note velocity : Word) : Statement (.noteOn note velocity) := fun _ _ =>
  length_of_nOp (nOp_of_header 0x91 _ _ _ .plain 2 rfl) rfl

theorem noteOff (note : Word) : Statement (.noteOff note) := fun _ _ =>
  length_of_nOp (nOp_of_header 0x92 _ _ _ .plain 1 rfl) rfl

theorem render (frameCount : Word) : Statement (.render frameCount) := fun _ _ =>
  length_of_nOp (nOp_of_header 0x93 _ _ _ .plain 1 rfl) rfl

end Sys2Proof.Laws.EncodeLength
end

