-- ==== Sys2Proof/Tests/Slice0.lean ====
section
/-! SUPPORT. Tests of the model's author: ill-formed commands, decoding of words written out from
spec/30_encoding.md, one-step tests whose expected words are printed in the spec (the source is named
in each comment), and a witness for the hypotheses of each statement. -/

namespace Sys2Proof.Tests

open Sys2Proof Sys2Proof.Machine

/-! ### Ill-formed commands (R80, R84) -/

theorem test_wf_refuses_voice : Instr.wf 8 (.envDec ⟨8, 0x05, 0⟩) = false := by decide
theorem test_wf_refuses_unit : Instr.wf 8 (.envDec ⟨0, 0x03, 0⟩) = false := by decide
theorem test_wf_refuses_reserved_selector : Instr.wf 8 (.stRd ⟨0, 0x06, 0⟩ 0) = false := by decide
theorem test_wf_refuses_partial_index : Instr.wf 8 (.prtClr ⟨0, 0x13, 64⟩) = false := by decide
theorem test_wf_refuses_index_elsewhere : Instr.wf 8 (.envDec ⟨0, 0x05, 1⟩) = false := by decide
theorem test_wf_refuses_register_index : Instr.wf 8 (.cfgRd 7) = false := by decide
theorem test_wf_refuses_side : Instr.wf 8 (.mdlWr 0x30 0 0 0) = false := by decide
theorem test_wf_refuses_filter_unit : Instr.wf 8 (.fltRst ⟨0, 0x12, 0⟩) = false := by decide
theorem test_wf_refuses_short_table :
    Instr.wf 8 (.resUpd ⟨0, 0x10, 0⟩ 0 0 0 (List.replicate 63 0)) = false := by decide
theorem test_wf_accepts_last :
    Instr.wf 8 (.prtClr ⟨7, 0x23, 63⟩) = true ∧ Instr.wf 8 (.cfgRd 6) = true ∧
      Instr.wf 8 (.resUpd ⟨7, 0x20, 0⟩ 0 0 0 (List.replicate 64 0)) = true := by decide

/-! ### Decoding

Bits 31:24 of a header are `OPC`, 23:16 `V`, 15:8 `U`, 7:0 `K` (R80); the headers are the ones the
rules of the instructions print, with other voices. Operand words are told apart by their values. -/

/-- Words 1, 2, …, `n`. -/
def counting (n : Nat) : List Word := (List.range n).map fun j => BitVec.ofNat 128 (j + 1)

theorem test_decode_system :
    decode [0x00000000#128] = .command .nop [] ∧
    decode [0x01000000#128] = .command .sysReset [] ∧
    decode [0x02000006#128, 9] = .command (.cfgWr 6 9) [] ∧
    decode [0x03000002#128] = .command (.cfgRd 2) [] ∧
    decode [0x04072305#128, 11] = .command (.stRd ⟨7, 0x23, 5⟩ 11) [] ∧
    decode [0x05000500#128, 3, 4] = .command (.stWr ⟨0, 0x05, 0⟩ 3 4) [] ∧
    decode [0x06000000#128] = .command .sysSuspend [] ∧
    decode [0x07000000#128] = .command .sysResume [] ∧
    decode [0x08001000#128, 1, 2, 3] = .command (.mdlWr 0x10 1 2 3) [] ∧
    decode [0x09002000#128, 1, 2] = .command (.mdlRd 0x20 1 2) [] := by decide

theorem test_decode_envelope :
    decode (0x10000500#128 :: counting 8) = .command (.envInit ⟨0, 0x05, 0⟩ 1 2 3 4 5 6 7 8) [] ∧
    decode [0x11000500#128, 1] = .command (.envAtk ⟨0, 0x05, 0⟩ 1) [] ∧
    decode [0x12010500#128] = .command (.envDec ⟨1, 0x05, 0⟩) [] ∧
    decode [0x13000500#128] = .command (.envSus ⟨0, 0x05, 0⟩) [] ∧
    decode [0x14020500#128] = .command (.envRel ⟨2, 0x05, 0⟩) [] ∧
    decode [0x15000500#128] = .command (.envProc ⟨0, 0x05, 0⟩) [] ∧
    decode [0x16070500#128] = .command (.envRst ⟨7, 0x05, 0⟩) [] := by decide

theorem test_decode_filter :
    decode [0x20000400#128, 1, 2, 3] = .command (.fltLp ⟨0, 0x04, 0⟩ 1 2 3) [] ∧
    decode [0x21000200#128, 1, 2, 3] = .command (.fltBp ⟨0, 0x02, 0⟩ 1 2 3) [] ∧
    decode [0x22001100#128, 1, 2, 3] = .command (.fltHp ⟨0, 0x11, 0⟩ 1 2 3) [] ∧
    decode [0x23000400#128, 1, 2, 3, 4] = .command (.fltDf1 ⟨0, 0x04, 0⟩ 1 2 3 4) [] ∧
    decode [0x24000400#128, 1, 2, 3, 4] = .command (.fltClr ⟨0, 0x04, 0⟩ 1 2 3 4) [] ∧
    decode [0x25032100#128] = .command (.fltRst ⟨3, 0x21, 0⟩) [] := by decide

theorem test_decode_exciters :
    decode [0x30000100#128, 1, 2] = .command (.mltTrig ⟨0, 0x01, 0⟩ 1 2) [] ∧
    decode [0x31000100#128] = .command (.mltProc ⟨0, 0x01, 0⟩) [] ∧
    decode [0x32020100#128] = .command (.mltClr ⟨2, 0x01, 0⟩) [] ∧
    decode (0x40000300#128 :: counting 10) =
      .command (.nseInit ⟨0, 0x03, 0⟩ 1 2 3 4 5 6 7 8 9 10) [] ∧
    decode [0x41000300#128, 1] = .command (.nseAtk ⟨0, 0x03, 0⟩ 1) [] ∧
    decode [0x42000300#128] = .command (.nseProc ⟨0, 0x03, 0⟩) [] ∧
    decode [0x43000300#128] = .command (.nseRel ⟨0, 0x03, 0⟩) [] ∧
    decode [0x44050300#128] = .command (.nseClr ⟨5, 0x03, 0⟩) [] := by decide

theorem test_decode_partial_waveguide :
    decode [0x50001301#128, 1, 2, 3, 4, 5] = .command (.prtUpd ⟨0, 0x13, 1⟩ 1 2 3 4 5) [] ∧
    decode [0x51001300#128, 1, 2, 3, 4] = .command (.prtProc ⟨0, 0x13, 0⟩ 1 2 3 4) [] ∧
    decode [0x5200233F#128] = .command (.prtClr ⟨0, 0x23, 63⟩) [] ∧
    decode [0x60001200#128, 1, 2, 3] = .command (.wgdUpd ⟨0, 0x12, 0⟩ 1 2 3) [] ∧
    decode [0x61001200#128, 1, 2, 3, 4] = .command (.wgdProc ⟨0, 0x12, 0⟩ 1 2 3 4) [] ∧
    decode [0x62012200#128] = .command (.wgdClr ⟨1, 0x22, 0⟩) [] := by decide

theorem test_decode_resonator :
    decode (0x70001000#128 :: counting 18) = .command
      (.resSetp ⟨0, 0x10, 0⟩ 1 2 3 4 5 6 7 8 9 10 11 12 13 14 15 16 17 18) [] ∧
    decode [0x71022000#128] = .command (.resAct ⟨2, 0x20, 0⟩) [] ∧
    decode (0x72001000#128 :: counting 67) =
      .command (.resUpd ⟨0, 0x10, 0⟩ 1 2 3 ((counting 67).drop 3)) [] ∧
    decode [0x73001000#128, 1, 2, 3, 4] = .command (.resProc ⟨0, 0x10, 0⟩ 1 2 3 4) [] ∧
    decode [0x74071000#128] = .command (.resClr ⟨7, 0x10, 0⟩) [] := by decide

theorem test_decode_voice_pool :
    decode [0x80000000#128, 1, 2, 3, 4] = .command (.voiTrig ⟨0, 0, 0⟩ 1 2 3 4) [] ∧
    decode [0x81030000#128] = .command (.voiRel ⟨3, 0, 0⟩) [] ∧
    decode [0x82000000#128, 1, 2, 3, 4] = .command (.voiPitch ⟨0, 0, 0⟩ 1 2 3 4) [] ∧
    decode [0x83000000#128] = .command (.voiUpd ⟨0, 0, 0⟩) [] ∧
    decode [0x84050000#128] = .command (.voiClr ⟨5, 0, 0⟩) [] ∧
    decode [0x90000000#128] = .command .poolNext [] ∧
    decode [0x91000000#128, 1, 2] = .command (.noteOn 1 2) [] ∧
    decode [0x92000000#128, 1] = .command (.noteOff 1) [] ∧
    decode [0x93000000#128, 3] = .command (.render 3) [] := by decide

/-- The serial order of R61: byte 0 holds bits 7 to 0. -/
theorem test_word_bytes :
    wordBytes 0x0102#128 = [2, 1, 0, 0, 0, 0, 0, 0, 0, 0, 0, 0, 0, 0, 0, 0] ∧
      bytesWord (wordBytes 0x0F0E0D0C0B0A09080706050403020100#128) =
        0x0F0E0D0C0B0A09080706050403020100#128 := by decide

/-! ### One step -/

/-- The state that one step gives from `s` with `ws` on the command port; `s` if it gives none. -/
def after (s : State) (ws : List Word) : State :=
  match step { s with cmdIn := ws } with
  | .next t => t
  | _ => s

/-- The words one step puts on the response port. -/
def answer (s : State) (ws : List Word) : List Word := (after s ws).respOut

/-- A machine with one voice. -/
def bench (v : Voice) : State := { State.reset with voices := [v] }

/-- The one voice of a bench after one step. -/
def voiceAfter (v : Voice) (ws : List Word) : Voice := voiceAt (after (bench v) ws).voices 0

/-- A reset voice with the given counter. -/
def aged (n : Nat) : Voice := { Voice.reset with frames := BitVec.ofNat 32 n }

/-- A reset machine whose voices have the given counters. -/
def pool (ns : List Nat) : State := { State.reset with voices := ns.map aged }

/- Decode errors: spec/95_test_vectors.md section 2.12. -/

theorem test_error_opcode :
    answer .reset [0x0A000000#128] = [1] ∧ answer .reset [0xFF000000#128] = [1] ∧
      (after .reset [0xA0000000#128, 0]).cmdIn = [0] := by decide

theorem test_error_reserved :
    answer .reset [0x100000000#128] = [2] ∧ answer .reset [0x00000001#128] = [2] ∧
      answer .reset [0x90010000#128] = [2] ∧ answer .reset [0x115080500#128] = [2] ∧
      answer .reset [0x15000501#128] = [2] ∧ answer .reset [0x08011000#128, 0, 0, 0] = [2] := by
  decide

theorem test_error_voice :
    answer .reset [0x15080500#128] = [3] ∧ answer .reset [0x15080300#128] = [3] ∧
      answer .reset [0x30090100#128, 0x01000000#128, 0x01000000#128] = [3] ∧
      (after .reset [0x30090100#128, 0x01000000#128, 0x01000000#128]).cmdIn = [] := by decide

theorem test_error_unit :
    answer .reset [0x15000300#128] = [4] ∧ answer .reset [0x52001200#128] = [4] ∧
      answer .reset [0x04000600#128, 0] = [4] ∧ answer .reset [0x08003000#128, 0, 0, 0] = [4] := by
  decide

theorem test_error_index :
    answer .reset [0x52001340#128] = [5] ∧ answer .reset [0x03000007#128] = [5] ∧
      answer .reset [0x02000007#128, 1] = [5] ∧ answer .reset [0x08001000#128, 64, 0, 0] = [5] ∧
      answer .reset [0x09001000#128, 0, -1] = [5] := by decide

theorem test_error_field :
    answer .reset [0x04000100#128, 3] = [6] ∧ answer .reset [0x04000200#128, 9] = [6] ∧
      answer .reset [0x04001100#128, 9] = [0, 0] ∧ answer .reset [0x04000200#128, 5] = [6] ∧
      answer .reset [0x05001300#128, 0, 5] = [6] ∧ answer .reset [0x04001200#128, 0x18000] = [6] := by
  decide

/-- A command waits until its operand words have arrived (R69). -/
theorem test_command_wait :
    step { State.reset with cmdIn := [0x05000000#128, 5] } = .fault .commandWait := by rfl

/- System commands: section 2.11. -/

theorem test_nop : after .reset [0] = { State.reset with respOut := [0] } := by rfl

theorem test_reset : after (pool [1, 2]) [0x01000000#128] =
    { State.reset with voices := [Voice.reset, Voice.reset], respOut := [0] } := by rfl

theorem test_cfg_rd :
    answer .reset [0x03000000#128] = [0, 0xBB800000000000000000] ∧
      answer .reset [0x03000006#128] = [0, 0x10000000000000000] := by decide

theorem test_cfg_wr : (after .reset [0x02000002#128, 0x8000000000000000#128]).globals =
    { Globals.reset with malletMix := 0x8000000000000000#128 } := by decide

theorem test_st_rd :
    answer .reset [0x04000000#128, 9] = [0, 0xFFFFFFFF] ∧
      answer .reset [0x04000000#128, 7] = [0, 0x10000000000000000] ∧
      answer .reset [0x04001305#128, 11] = [0, 0x10000000000000000] ∧
      answer .reset [0x0400133F#128, 0] = [0, 64] ∧
      answer .reset [0x04002200#128, 0x17FFF] = [0, 0] := by decide

theorem test_st_wr :
    (voiceAfter .reset [0x05000000#128, 5, 5]).couple = true ∧
      (voiceAfter .reset [0x05000500#128, 0, 9]).noise.env.state = .off ∧
      (voiceAfter .reset [0x05001200#128, 9, 9000]).resA.wg.readPtr = 8191 := by decide

theorem test_mdl_wr : (after .reset [0x08001000#128, 0, 1, 7]).models = [(1, 7)] ∧
    (after .reset [0x08002000#128, 1, 2, 7]).models = [(4096 + 66, 7)] := by decide

theorem test_mdl_rd :
    answer { State.reset with models := [(1, 7)] } [0x09001000#128, 0, 1] = [0, 7] ∧
      answer { State.reset with models := [(1, 7)] } [0x09002000#128, 0, 1] = [0, 0] := by decide

theorem test_suspend : (voiceAfter { Voice.reset with
    note := 60, mallet := { Mallet.reset with elapsed := 5 } } [0x06000000#128]).mallet.elapsed = 0 ∧
    (voiceAfter { Voice.reset with note := 60 } [0x06000000#128]).note = 60 := by decide

theorem test_resume : (voiceAfter { Voice.reset with
    noise := { Noise.reset with env := { Envelope.reset with state := .sustain } } }
    [0x07000000#128]).noise.env.state = .off := by decide

/- Arithmetic: section 1.1 and R103, R104. -/

theorem test_fx_mul :
    fxMul 1 c05 = 1 ∧ fxMul (-1) c05 = 0 ∧ fxMul 3 c05 = 2 ∧ fxMul (-3) c05 = -1 ∧
      fxMul fxMin127 fxMin127 = fxMax127 := by decide

theorem test_fx_div :
    fxDiv fxOne (fxOfInt 3) = 0x5555555555555555 ∧
      fxDiv (fxOfInt (-1)) (fxOfInt 3) = 0xFFFFFFFFFFFFFFFFAAAAAAAAAAAAAAAB ∧
      fxDiv fxOne 0 = fxMax127 ∧ fxDiv (fxOfInt (-1)) 0 = fxMin127 ∧ fxDiv 0 0 = 0 := by decide

/- Envelope: the examples of R131, R134, R135, R139. -/

theorem test_env_tension :
    envNormTension fxOne = 0x1004189374BC6A7F0 ∧ envNormTension c04 = 0x199DB22D0E560418A ∧
      envNormTension 0 = fxOfInt 100 := by decide

/-- An Envelope in Attack with the coefficients of the example of R135. -/
def attacking : Envelope :=
  { Envelope.reset with
    state := .attack, scale := fxOne, ab := 0x332FFDD986B3CC, ac := 0x100EBCC4D8E1CFD14 }

/-- A voice with the given Noise Envelope. -/
def withEnv (e : Envelope) : Voice := { Voice.reset with noise := { Noise.reset with env := e } }

theorem test_env_init : (voiceAfter .reset
    [0x10000500#128, fxOfInt 48000, fxOfInt 10, fxOfInt 100, fxOfInt (-6), fxOfInt 200, c04, c04,
      c04]).noise.env.dec = fxOfInt 4800 ∧
    (voiceAfter .reset
    [0x10000500#128, fxOfInt 48000, 0, fxOfInt 100, fxOfInt (-6), fxOfInt 200, c04, c04,
      c04]).noise.env.att = fxOfInt 48 := by decide

theorem test_env_atk : (voiceAfter .reset [0x11000500#128, fxOne]).noise.env.state = .attack ∧
    (voiceAfter .reset [0x11000500#128, fxOne]).noise.env.scale = fxOne := by decide

theorem test_env_dec : voiceAfter .reset [0x12000500#128] =
    withEnv { Envelope.reset with state := .decay } := by decide

theorem test_env_sus : voiceAfter .reset [0x13000500#128] =
    withEnv { Envelope.reset with state := .sustain } := by decide

theorem test_env_rel :
    (voiceAfter (withEnv attacking) [0x14000500#128]).noise.env.state = .release ∧
      (voiceAfter (withEnv { attacking with env := 5 }) [0x14000500#128]).noise.env.env = 5 := by
  decide

theorem test_env_proc :
    answer (bench (withEnv attacking)) [0x15000500#128] = [0, 1, 0x332FFDD986B3CC] ∧
      answer (bench (withEnv { attacking with env := 0x332FFDD986B3CC })) [0x15000500#128] =
        [0, 1, 0x668F219AD4395B] := by decide

theorem test_env_rst : voiceAfter (withEnv attacking) [0x16000500#128] =
    withEnv { attacking with state := .off } := by decide

/- Filter: the examples of R153, R154, R156, R157. -/

/-- The low-pass of the example of R153, in the Noise. -/
def lowpass : Voice :=
  { Voice.reset with
    noise := { Noise.reset with
      flt := { Noise.reset.flt with
        a1 := 0xFFFFFFFFFFFFFFFE2F475338561BC502, a2 := 0xD4BB403CCDDA0370
        b0 := 0x0100A4DD48FD721C, b1 := 0x020149BA91FAE438, b2 := 0x0100A4DD48FD721C } } }

theorem test_flt_df1 :
    answer (bench lowpass) [0x23000400#128, fxOne, 0, 0, 0] = [0, 0x0100A4DD48FD721C, 0, 0, 0] ∧
      answer (bench (voiceAfter lowpass [0x23000400#128, fxOne, 7, 8, 9]))
        [0x23000400#128, 0, 0, 0, 0] = [0, 0x03D32DAF5C41DFE7, 0, 0, 0] := by decide

theorem test_flt_clr :
    (voiceAfter lowpass [0x24000400#128, c05, 0, 0, 0]).noise.flt.y2 = 0x7FFFFFFFFFFFFFC0 ∧
      (voiceAfter lowpass [0x24000400#128, c05, 0, 0, 0]).noise.flt.x1 = c05 := by decide

/-- The corner case `freq` = 0 of R153 and R155, for any `q`. -/
theorem test_flt_freq_zero :
    let lp := (voiceAfter .reset [0x20000400#128, fxOfInt 48000, 0, c0707]).noise.flt
    let hp := (voiceAfter .reset [0x22000400#128, fxOfInt 48000, 0, c0707]).noise.flt
    lp.a1 = fxOfInt (-2) ∧ lp.a2 = fxOne ∧ lp.b0 = 0 ∧ hp.b0 = fxOne ∧ hp.b1 = fxOfInt (-2) := by
  decide +kernel

theorem test_flt_rst : voiceAfter
    { Voice.reset with resB := { Resonator.reset with
      post := { Resonator.reset.post with b1 := 4, x1 := ⟨1, 2, 3, 4⟩ } } } [0x25002100#128] =
    { Voice.reset with resB := { Resonator.reset with
      post := { Resonator.reset.post with b1 := 4 } } } := by decide

theorem test_flt_bp_keeps_history :
    (voiceAfter { lowpass with noise := { lowpass.noise with flt := { lowpass.noise.flt with
      x1 := 5 } } } [0x21000400#128, fxOfInt 48000, fxOfInt 440, c0707]).noise.flt.x1 = 5 ∧
    (voiceAfter lowpass [0x21000400#128, fxOfInt 48000, fxOfInt 440, c0707]).noise.flt.b1 = 0 := by
  decide

/- Mallet and Noise: R166 to R168, R176. -/

/-- A Mallet as the example of R166 leaves it, with the band-pass of R154. -/
def struck : Voice :=
  { Voice.reset with
    mallet :=
      { impulse := fxOne, env := 0xFFF2591C58D1B4E1, elapsed := 4800
        flt := { Mallet.reset.flt with
          a1 := 0xFFFFFFFFFFFFFFFE14D80F2DBC97B9A7, a2 := 0xEBF8C7BE7F968B9C
          b0 := 0x071478E0E2006A0A, b2 := 0xFFFFFFFFFFFFFFFFF8EB871F1DFF95F6 } } }

theorem test_mlt_trig :
    (voiceAfter .reset [0x30000100#128, fxOfInt 48000, fxOfInt 440]).mallet.elapsed = 4800 ∧
      (voiceAfter .reset [0x30000100#128, fxOfInt 44100, fxOfInt 440]).mallet.impulse = fxOne := by
  decide

theorem test_mlt_proc :
    answer (bench struck) [0x31000100#128] = [0, 0x0E28F1C1C400D414] ∧
      (voiceAfter struck [0x31000100#128]).mallet.elapsed = 4799 ∧
      answer (bench .reset) [0x31000100#128] = [0, 0] := by decide

theorem test_mlt_clr :
    (voiceAfter struck [0x32000100#128]).mallet = { struck.mallet with elapsed := 0, impulse := 0 } :=
  by decide

theorem test_nse_init :
    let v := voiceAfter .reset (0x40000300#128 :: fxOfInt 48000 :: counting 9)
    v.noise.mode = .bp ∧ v.noise.freq = 2 ∧ v.noise.velQ = 9 ∧
      v.noise.env.tr = 0x199DB22D0E560418A := by decide

theorem test_nse_atk : (voiceAfter .reset [0x41000300#128, c05]).noise.vel = c05 ∧
    (voiceAfter .reset [0x41000300#128, c05]).noise.env.scale = fxOne := by decide

/-- The filter is bypassed: the third draw of the example of R176, `FX_ONE`, is clamped to the
largest word below it, and times the Envelope value it gives that value. -/
theorem test_nse_proc :
    answer { bench (withEnv attacking) with rngIn := [fxOne, 3] } [0x42000300#128] =
        [0, 0x332FFDD986B3CC] ∧
      (after { bench (withEnv attacking) with rngIn := [fxOne, 3] } [0x42000300#128]).rngIn = [3] ∧
      answer { bench .reset with rngIn := [fxOne] } [0x42000300#128] = [0, 0] := by decide

theorem test_nse_proc_waits :
    step { bench (withEnv attacking) with cmdIn := [0x42000300#128] } = .fault .rngWait := by rfl

theorem test_nse_rel : (voiceAfter .reset [0x43000300#128]).noise.env.state = .release := by decide

theorem test_nse_clr : (voiceAfter (withEnv { attacking with env := 9 }) [0x44000300#128]) =
    withEnv { attacking with state := .off } := by decide

/- Partial: section 2.6, row B6, and the inert Partial. -/

/-- A voice whose Resonator A has Partial 0 with the coefficients of row B6. -/
def ringing : Voice :=
  Voice.reset.setPart .a 0
    { Partial.reset with
      a0 := 0x100089421E783D096, a1 := 0xFFFFFFFFFFFFFFFE00D95766D3B8BBF4
      a2 := 0xFFF76BDE187C2F6A, b0 := 0xD44F8140F1D76C, b2 := 0xFFFFFFFFFFFFFFFFFF2BB07EBF0E2894 }

theorem test_prt_proc :
    answer (bench ringing) [0x51001300#128, fxOne, fxOfInt (-1), c05, 0] =
      [0, 0xD4486427D9620D, 0xFFFFFFFFFFFFFFFFFF2BB79BD8269DF3, 0x6A243213ECB106, 0] := by decide

theorem test_prt_proc_inert :
    answer (bench .reset) [0x51001301#128, 1, 1, 1, 1] = [0, 0, 0, 0, 0] ∧
      (bankGet (voiceAfter .reset [0x51001301#128, 1, 1, 1, 1]).resA.parts 1).x1 = ⟨1, 1, 1, 1⟩ := by
  decide

theorem test_prt_clr : voiceAfter
    (ringing.setPart .a 63 { Partial.reset with y2 := ⟨1, 2, 3, 4⟩ }) [0x5200133F#128] = ringing := by
  decide

theorem test_prt_upd_keeps_history : (bankGet (voiceAfter
    (Voice.reset.setPart .b 5 { Partial.reset with y2 := ⟨1, 2, 3, 4⟩, hit := 6 })
    [0x50002305#128, 1, 2, 3, 4, 5]).resB.parts 4) = Partial.reset := by decide

/-- A voice whose Resonator A has Partial 0 ready for an update at the given sample rate: the
registers of section 2.6 that decide the branch. -/
def readyPartial (rate : Int) : Voice :=
  Voice.reset.setPart .a 0
    { Partial.reset with decay := fxOne, inharm := fxOne, srate := fxOfInt rate }

/-- The boundary of R191 and section 1.3, with `ratio` = `ratio_max` = `FX_ONE`: inert at and above
`FX(23040)` and below `FX(20)`, computed one unit below the first and at the second, with the `a0` of
rows B2 and B4; inert at `FX(21168)` for 44100 Hz. -/
theorem test_prt_upd_boundary :
    let a0 := fun rate f0 => (bankGet (voiceAfter (readyPartial rate)
      [0x50001300#128, f0, fxOne, fxOne, 0, 0]).resA.parts 0).a0
    a0 48000 (fxOfInt 23040) = fxOne ∧ a0 48000 (fxOfInt 23040 + 1) = fxOne ∧
      a0 48000 (fxOfInt 23040 - 1) = 0x100089421E783D096 ∧
      a0 48000 (fxOfInt 20) = 0x100089421E783D096 ∧ a0 48000 (fxOfInt 20 - 1) = fxOne ∧
      a0 44100 (fxOfInt 21168) = fxOne := by decide +kernel

/- Waveguide: R202, R203, section 2.7 (any `NUM` for the pointers). -/

/-- A voice whose Waveguide A is the open tube of the example of R202. -/
def tube (closed : Bool) (w : Nat) : Voice :=
  Voice.reset.setWg .a
    { Waveguide.reset with
      isClosed := closed, srate := fxOfInt 48000, decay := fxOne, rel := c05
      writePtr := BitVec.ofNat 32 w }

theorem test_wgd_upd :
    (voiceAfter (tube false 0) [0x60001200#128, fxOfInt 440, fxOne, 0]).resA.wg.tlen = 109 ∧
    (voiceAfter (tube false 0) [0x60001200#128, fxOfInt 440, fxOne, 0]).resA.wg.readPtr = 8083 ∧
    (voiceAfter (tube true 0) [0x60001200#128, fxOfInt 440, fxOne, 0]).resA.wg.tlen = 54 ∧
    (voiceAfter (tube false 100) [0x60001200#128, fxOfInt 440, fxOne, 0]).resA.wg.readPtr = 8183 ∧
    (voiceAfter (tube false 0) [0x60001200#128, 0, fxOne, 0]).resA.wg.tlen = 8192 := by decide

/-- The 110th step of the example of R203. -/
theorem test_wgd_proc :
    let v := Voice.reset.setWg .a { Waveguide.reset with
      tubeDecay := 0xFB48B3A31602DDD8, radius := ⟨c05, c05, 0x4000000000000000, fxOne⟩
      readPtr := 0, writePtr := 109, buf := wgWrite [] 0 (V4.splat fxOne) }
    answer (bench v) [0x61001200#128, 0, 0, 0, 0] =
        [0, 0x7DA459D18B016EEC, 0x7DA459D18B016EEC, 0x3ED22CE8C580B776, 0xFB48B3A31602DDD8] ∧
      (voiceAfter v [0x61001200#128, 0, 0, 0, 0]).resA.wg.buf.read (4 * 109 + 2) =
        0x3ED22CE8C580B776 := by decide

theorem test_wgd_clr : (voiceAfter (Voice.reset.setWg .b { Waveguide.reset with
    tlen := 5, readPtr := 3, yPrev := ⟨1, 2, 3, 4⟩, buf := [(8, 1)] }) [0x62002200#128]).resB.wg =
    { Waveguide.reset with tlen := 5 } := by decide

/- Resonator: R217, R220, section 2.8. -/

theorem test_res_setp :
    let v := voiceAfter .reset (0x70001000#128 :: fxOfInt 48000 :: 1 :: 70 :: 100 :: counting 14)
    v.resA.model = 63 ∧ v.resA.npartials = 64 ∧ v.resA.wg.isClosed = true ∧
      (bankGet v.resA.parts 63).velInharm = 14 := by decide

theorem test_res_act : (voiceAfter .reset [0x71002000#128]).resB =
    { Resonator.reset with active := true } := by decide

theorem test_res_upd :
    let v := (tube false 0).setRes .a { (tube false 0).resA with model := 7 }
    let w := voiceAfter v
      (0x72001000#128 :: fxOfInt 440 :: fxOne :: 0 :: fxOne :: List.replicate 63 0)
    w.resA.wg.tlen = 109 ∧ w.resA.parts = v.resA.parts := by decide

theorem test_res_proc :
    answer (bench .reset) [0x73001000#128, fxOne, fxOne, fxOne, fxOne] = [0, 0, 0, 0, 0] ∧
      (voiceAfter (Voice.reset.setRes .a { Resonator.reset with active := true, srate := fxOne })
        [0x73001000#128, fxOne, fxOne, fxOne, fxOne]).resA.silence = 4 ∧
      (voiceAfter (Voice.reset.setRes .a
          { Resonator.reset with active := true, srate := fxOfInt 48000, silence := 47997 })
        [0x73001000#128, cSil, cSil + 1, 0, -cSil - 1]).resA.silence = 47999 := by decide

theorem test_res_clr : (voiceAfter (ringing.setRes .a
    { ringing.resA with active := true, silence := 9, wg := { Waveguide.reset with buf := [(1, 1)] } })
    [0x74001000#128]).resA = { ringing.resA with active := true, silence := 9 } := by decide

/- Voice: R237 to R241, section 2.9. -/

theorem test_voi_trig :
    let v := voiceAfter .reset [0x80000000#128, fxOfInt 48000, 200, -5, fxOfInt 1000]
    v.note = 127 ∧ v.vel = 0 ∧ v.isPressed = true ∧ v.frames = 0 ∧ v.resA.active = false := by decide

theorem test_voi_rel :
    let v := voiceAfter { Voice.reset with isPressed := true } [0x81000000#128]
    v.isPressed = false ∧ v.isRelease = true ∧ v.noise.env.state = .release := by decide

theorem test_voi_pitch :
    let v := voiceAfter .reset [0x82000000#128, fxOfInt 12, fxOfInt (-12), 0, 0]
    v.pitchA = fxOfInt 2 ∧ v.pitchB = c05 := by decide

theorem test_voi_upd : voiceAfter .reset [0x83000000#128] = .reset := by decide

/-- One pair of R240 at the parameters of reset, where `COUPLE_DY` is the identity, by hand: with
`freq` = `split` = 1 and `d` = 0 the shift is sqrt(1) = 1, up for A and down for B; a pair farther
apart than 4 Hz does not move. -/
theorem test_voi_upd_couples_pair :
    let pair := voiCouplePair State.reset.params.coupleThresh fxOne
      (voiCoupleDy State.reset.params fxOne)
    pair 0 0 1 0 ([7, 0], [0]) = ([7, fxOne], [fxOfInt (-1)]) ∧
      pair (fxOfInt 5) 0 1 0 ([7, 0], [0]) = ([7, 0], [0]) := by decide +kernel

theorem test_voi_clr : voiceAfter { struck with note := 3, frames := 4 } [0x84000000#128] =
    { Voice.reset with
      note := 3, frames := 4
      mallet := { struck.mallet with elapsed := 0, impulse := 0 } } := by decide

/- Pool, notes, render: R256 to R258, R262, section 2.10. -/

theorem test_pool_next :
    answer .reset [0x90000000#128] = [0, 0] ∧
      answer (pool [5, 9, 9, 2, 0, 0, 0, 0]) [0x90000000#128] = [0, 1] ∧
      answer (pool [1, 2, 3, 4, 5, 6, 7, 8]) [0x90000000#128] = [0, 7] ∧
      answer (pool [3, 4294967295, 7, 4294967295, 0]) [0x90000000#128] = [0, 1] := by decide

theorem test_note_on :
    answer .reset [0x91000000#128, 69, 127] = [0, 0] ∧
      (voiceAfter .reset [0x91000000#128, 300, 300]).vel = fxOne ∧
      (voiceAfter .reset [0x91000000#128, 69, 127]).frames = 0 := by decide

theorem test_note_off :
    let v := { Voice.reset with note := 60, isPressed := true }
    answer { State.reset with voices := [v, v, Voice.reset] } [0x92000000#128, 60] = [0, 2] ∧
      (voiceAfter v [0x92000000#128, 60]).isPressed = false ∧
      answer (bench { v with note := 0 }) [0x92000000#128, -4] = [0, 1] := by decide

theorem test_render :
    answer .reset [0x93000000#128, 2] = [0, 0, 0, 0, 0, 0, 0, 0, 0] ∧
      answer .reset [0x93000000#128, 0] = [0] ∧
      (after (pool [0, 4294967294]) [0x93000000#128, 2]).voices = [aged 2, aged 4294967295] := by
  decide +kernel

/-! ### Witnesses

One theorem for each statement with hypotheses: a state and operands that meet them, each clause at
a boundary where it has one. -/

/-- The reset machine with the words on the command port and on `RNGIN`. -/
def fed (cmd rng : List Word) : State := { State.reset with cmdIn := cmd, rngIn := rng }

theorem witness_DecodeEncodeAgree :
    Instr.wf 8 (.prtClr ⟨7, 0x23, 63⟩) = true ∧ Instr.wf 8 (.cfgWr 6 1) = true ∧
      Instr.wf 1 (.stRd ⟨0, 0x00, 0⟩ 0) = true := by decide

theorem witness_EncodeDecodeAgree :
    decode [0x91000000#128, 1, 2, 3] = .command (.noteOn 1 2) [3] := by decide

theorem witness_PortFraming :
    opcodeRow (headerOpc 0x0A000000#128).toNat = none ∧
      opcodeRow (headerOpc 0x91000000#128).toNat = some (.plain, 2) ∧ [1].length < 2 ∧
      headerRsv 0x191000000#128 ≠ 0#96 ∧
      reservedFieldSet .plain (headerTarget 0x91000001#128) = true ∧
      headerRsv 0x91000000#128 = 0#96 ∧
      reservedFieldSet .plain (headerTarget 0x91000000#128) = false := by decide

theorem witness_OpcodeTableRows : (0x0A : Nat) < 256 ∧ (0xFF : Nat) < 256 ∧ 0x94 ≤ 0xFF := by decide

theorem witness_StepRunsDecodedCommand :
    decode (fed [0, 5] []).cmdIn = .command .nop [5] ∧
      decode (fed [1, 5] []).cmdIn = .reject .reserved [5] := by decide

theorem witness_OnlyDrawsWait :
    exec (.nseProc ⟨0, 0x03, 0⟩) (bench (withEnv attacking)) = .fault .rngWait ∧
      exec (.render 1) (bench (withEnv attacking)) = .fault .rngWait := ⟨rfl, rfl⟩

theorem witness_UnitCommandChecksInOrder :
    unitTarget (.prtClr ⟨8, 0x13, 0⟩) = some (⟨8, 0x13, 0⟩, [0x13#8, 0x23#8]) ∧
      State.reset.nv ≤ (8#8).toNat ∧ (7#8).toNat < State.reset.nv ∧
      0x12#8 ∉ [0x13#8, 0x23#8] ∧ 0x23#8 ∈ [0x13#8, 0x23#8] ∧ 63 < (64#8).toNat ∧
      unitTarget (.envDec ⟨7, 0x05, 1⟩) = some (⟨7, 0x05, 1⟩, [0x05#8]) ∧
      ¬(0x05#8 = 0x13#8 ∨ 0x05#8 = 0x23#8) ∧ 1#8 ≠ 0#8 := by decide

theorem witness_ResponseIsStatusThenResults :
    (∃ s', exec (.cfgRd 6) .reset = .next s' ∧ s'.respOut = [0, fxOne]) ∧
      ∃ s', exec (.cfgRd 7) .reset = .next s' ∧ s'.respOut = [5] :=
  ⟨⟨_, rfl, rfl⟩, ⟨_, rfl, rfl⟩⟩

theorem witness_EveryStepKeepsStateInv :
    StateInv (bench .reset) ∧ ∃ s', step { bench .reset with cmdIn := [0x62000000#128] } = .next s' :=
  ⟨by decide, _, rfl⟩

theorem witness_ParametersAndPoolSizeFixed : ∃ s', step (fed [0x01000000#128] []) = .next s' :=
  ⟨_, rfl⟩

theorem witness_GlobalsAndModelsHaveOneWriter :
    (∃ s', exec (.noteOff 60) .reset = .next s') ∧
      (∀ k x, Instr.noteOff 60 ≠ .cfgWr k x) ∧ Instr.noteOff 60 ≠ .sysReset ∧
      ∀ u m e x, Instr.noteOff 60 ≠ .mdlWr u m e x :=
  ⟨⟨_, rfl⟩, by simp, by simp, by simp⟩

theorem witness_UnitCommandTouchesOneVoice :
    unitTarget (.mltClr ⟨7, 0x01, 0⟩) = some (⟨7, 0x01, 0⟩, [0x01#8]) ∧
      (∃ s', exec (.mltClr ⟨7, 0x01, 0⟩) .reset = .next s') ∧ 6 ≠ (7#8).toNat ∧
      ∀ t, Instr.mltClr ⟨7, 0x01, 0⟩ ≠ .nseProc t :=
  ⟨rfl, ⟨_, rfl⟩, by decide, by simp⟩

theorem witness_PortsMoveForward :
    (∃ s', exec (.cfgRd 0) (fed [1] [2]) = .next s') ∧ (∀ t, Instr.cfgRd 0 ≠ .nseProc t) ∧
      ∀ n, Instr.cfgRd 0 ≠ .render n :=
  ⟨⟨_, rfl⟩, by simp, by simp⟩

theorem witness_ResetRegisterValues :
    7 < State.reset.nv ∧ registerWord .reset 7 (.part .b) 63 0 = some 64 := by decide

theorem witness_CfgWriteAndRead :
    (0#8).toNat ≤ 6 ∧ (6#8).toNat ≤ 6 ∧ 6 < (7#8).toNat := by decide

theorem witness_StRdAnswersRegister :
    (⟨7, 0x22, 0⟩ : Target).wf State.reset.nv allUnits = true ∧
      unitOfCode 0x22 = some (.wg .b) ∧ fieldExists 8192 (.wg .b) 0 ∧
      fieldExists 8192 (.wg .b) 0x17FFF ∧ ¬fieldExists 8192 (.wg .b) 0x18000 ∧
      (0 : Int) ≤ (0x17FFF#128).toInt ∧ (-1#128).toInt < 0 := by
  refine ⟨by decide, by decide, ?_, ?_, ?_, by decide, by decide⟩ <;> simp [fieldExists]

theorem witness_StWrStoresLegalisedWord :
    StateInv (bench .reset) ∧ (⟨0, 0x13, 63⟩ : Target).wf (bench .reset).nv allUnits = true ∧
      unitOfCode 0x13 = some (.part .a) ∧ fieldExists 8192 (.part .a) 31 ∧
      ¬fieldExists 8192 (.part .a) 32 ∧ (31#128).toInt ≠ 0 ∧ (0#128).toInt = 0 := by
  refine ⟨by decide, by decide, by decide, ?_, ?_, by decide, by decide⟩ <;> simp [fieldExists]

theorem witness_StWrLeavesOtherRegisters :
    (∃ s', exec (.stWr ⟨0, 0x13, 63⟩ 1 5) (bench .reset) = .next s') ∧
      (⟨0, 0x13, 0⟩ : Target).wf (bench .reset).nv allUnits = true ∧
      unitOfCode 0x13 = some (.part .a) ∧
      ¬((⟨0, 0x13, 0⟩ : Target) = ⟨0, 0x13, 63⟩ ∧ ((1 : Nat) : Int) = (1#128).toInt) :=
  ⟨⟨_, rfl⟩, by decide, by decide, by decide⟩

theorem witness_SuspendAndResumeFlush : ∃ s', exec .sysSuspend (bench struck) = .next s' := ⟨_, rfl⟩

theorem witness_ModelMemoryWriteAndRead :
    (0 : Int) ≤ (0#128).toInt ∧ (63#128).toInt ≤ 63 ∧ 63 < (64#128).toInt ∧ (-1#128).toInt < 0 ∧
      State.reset.models.wf = true ∧ 0x30#8 ≠ 0x10#8 ∧ 0x30#8 ≠ 0x20#8 ∧
      ¬(Side.a = .b ∧ 63 = (63#128).toInt.toNat ∧ 63 = (63#128).toInt.toNat) ∧
      mdlAddr .b 63 62 ≠ mdlAddr .b 63 63 := by decide

theorem witness_FxMulAndDotRoundOnce : [((1 : Int), (2 : Int)), (3, 4)].Perm [(3, 4), (1, 2)] := by
  decide

theorem witness_FxDivTruncates : (1#128).toInt ≠ 0 ∧ (0#128).toInt = 0 := by decide

theorem witness_EnvForcedSegments :
    (⟨7, 0x05, 0⟩ : Target).wf State.reset.nv [0x05#8] = true := by decide

theorem witness_EnvInitCommand :
    (⟨0, 0x05, 0⟩ : Target).wf State.reset.nv [0x05#8] = true := by decide

theorem witness_EnvAttackAndRelease :
    (⟨7, 0x05, 0⟩ : Target).wf State.reset.nv [0x05#8] = true ∧
      fxOne.toInt < (fxOne + 1).toInt ∧ fxOne.toInt ≤ fxOne.toInt ∧
      fxCube fxOne ≠ 0#128 ∧ fxCube (fxSub (fxOfInt 2) fxOne) ≠ 0#128 := by decide

/-- The clauses of `ENV.PROC`, the two sides of each end test. -/
theorem witness_EnvProcCommand :
    (⟨0, 0x05, 0⟩ : Target).wf (bench (withEnv attacking)).nv [0x05#8] = true ∧
      (voiceOf (bench (withEnv attacking)) ⟨0, 0x05, 0⟩).noise.env = attacking ∧
      attacking.state = .attack ∧
      (fxAdd attacking.ab (fxMul attacking.env attacking.ac)).toInt < attacking.scale.toInt ∧
      (let u : Envelope := { attacking with ab := fxOne };
        u.scale.toInt ≤ (fxAdd u.ab (fxMul u.env u.ac)).toInt) ∧
      (let u : Envelope := { Envelope.reset with state := .decay, sus := c05, scale := fxOne, db := c05 };
        u.state = .decay ∧
          (fxAdd u.db (fxMul u.env u.dc)).toInt ≤ (fxMul u.sus u.scale).toInt) ∧
      (let u : Envelope := { Envelope.reset with state := .decay, sus := c05, scale := fxOne, db := c05 + 1 };
        (fxMul u.sus u.scale).toInt < (fxAdd u.db (fxMul u.env u.dc)).toInt) ∧
      (let u : Envelope := { Envelope.reset with state := .release };
        u.state = .release ∧ (fxAdd u.rb (fxMul u.env u.rc)).toInt ≤ 0) ∧
      (let u : Envelope := { Envelope.reset with state := .release, rb := 1 };
        0 < (fxAdd u.rb (fxMul u.env u.rc)).toInt) ∧
      Envelope.reset.state = .off ∧
      ({ Envelope.reset with state := .sustain } : Envelope).state = .sustain := by decide

theorem witness_EnvTensionRange :
    (0#128).toInt = 0 ∧ (-1#128).toInt < 0 ∧ 0 < (1#128).toInt ∧ fxOne.toInt ≤ fxOne.toInt ∧
      (fxOfInt (-1)).toInt ≤ -fxOne.toInt := by decide

theorem witness_FilterTuning :
    (⟨7, 0x02, 0⟩ : Target).wf State.reset.nv [filterCode .mallet] = true ∧
      (⟨7, 0x04, 0⟩ : Target).wf State.reset.nv [filterCode .noise] = true ∧
      (⟨7, 0x21, 0⟩ : Target).wf State.reset.nv [filterCode (.post .b)] = true := by decide

theorem witness_FilterSample :
    (⟨0, 0x02, 0⟩ : Target).wf State.reset.nv [0x02#8] = true ∧
      (⟨0, 0x04, 0⟩ : Target).wf State.reset.nv [0x04#8] = true ∧
      (⟨7, 0x21, 0⟩ : Target).wf State.reset.nv [postCode .b] = true ∧
      let f := ((voiceOf .reset ⟨7, 0x21, 0⟩).res .b).post
      ∀ l < 4, V4.zero.lane l = fxDot [(f.b0.toInt, (V4.zero.lane l).toInt),
        (f.b1.toInt, (f.x0.lane l).toInt), (f.b2.toInt, (f.x1.lane l).toInt),
        (-f.a1.toInt, (f.y1.lane l).toInt), (-f.a2.toInt, (f.y2.lane l).toInt)] := by decide

theorem witness_FilterHistory :
    (⟨7, 0x02, 0⟩ : Target).wf State.reset.nv [0x02#8] = true ∧
      (⟨7, 0x04, 0⟩ : Target).wf State.reset.nv [0x04#8] = true ∧
      (⟨0, 0x11, 0⟩ : Target).wf State.reset.nv [postCode .a] = true := by decide

theorem witness_MalletCommands :
    (⟨0, 0x01, 0⟩ : Target).wf (bench struck).nv [0x01#8] = true ∧
      (voiceOf (bench struck) ⟨0, 0x01, 0⟩).mallet.elapsed ≠ 0#32 ∧
      (voiceOf .reset ⟨0, 0x01, 0⟩).mallet.elapsed = 0#32 := by decide

theorem witness_MalletCountdown : struck.mallet.elapsed.toNat ≤ 4800 := by decide

theorem witness_NoiseParameterCommands :
    (⟨7, 0x03, 0⟩ : Target).wf State.reset.nv [0x03#8] = true := by decide

theorem witness_NoiseProcDraws :
    (⟨0, 0x03, 0⟩ : Target).wf (bench (withEnv attacking)).nv [0x03#8] = true ∧
      (voiceOf .reset ⟨0, 0x03, 0⟩).noise.env.state = .off ∧
      (voiceOf (bench (withEnv attacking)) ⟨0, 0x03, 0⟩).noise.env.state ≠ .off ∧
      (bench (withEnv attacking)).rngIn = [] ∧
      ({ bench (withEnv attacking) with rngIn := [1, 2] } : State).rngIn = 1 :: [2] := by decide

theorem witness_NoiseFilterClamps : ∃ (n : Noise) (f res : Fx),
    f = fxMin (fxMax (numExp (fxAdd (numLn n.freq)
      (fxMul (fxMul n.vel n.velFreq) cLn1000))) (fxOfInt 20)) (fxOfInt 20000) ∧
    res = fxMin (fxMax (fxAdd n.q (fxMul (fxMul n.vel n.velQ) cResRange)) c0707) (fxOfInt 4) :=
  ⟨Noise.reset, _, _, rfl, rfl⟩

theorem witness_PartialUpdateCommand :
    (⟨7, 0x23, 63⟩ : Target).wf State.reset.nv [partCode .b] = true ∧
      (partialOf .reset ⟨7, 0x23, 63⟩ .b).hit = 0#128 ∧
      (partialOf .reset ⟨7, 0x23, 63⟩ .b).velHit = 0#128 ∧
      (let u := partialOf (bench (readyPartial 48000)) ⟨0, 0x13, 0⟩ .a
       (⟨0, 0x13, 0⟩ : Target).wf (bench (readyPartial 48000)).nv [partCode .a] = true ∧
         fxOfInt 20 ≠ 0#128 ∧ u.decay = fxOne ∧ u.velDecay = 0#128 ∧ u.damp = 0#128 ∧
         u.srate = fxOfInt 48000) ∧
      (partialOf (bench (readyPartial 44100)) ⟨0, 0x13, 0⟩ .a).srate = fxOfInt 44100 := by decide

theorem witness_PartialSampleAndClear :
    (⟨0, 0x13, 0⟩ : Target).wf State.reset.nv [partCode .a] = true ∧
      let u := partialOf .reset ⟨0, 0x13, 0⟩ .a
      (∀ l < 4, V4.zero.lane l = fxDiv (fxDot [(u.b0.toInt, (V4.zero.lane l).toInt),
        (u.b2.toInt, (u.x2.lane l).toInt), (-u.a1.toInt, (u.y1.lane l).toInt),
        (-u.a2.toInt, (u.y2.lane l).toInt)]) u.a0) ∧
      u.a0 = fxOne ∧ u.a1 = 0 ∧ u.a2 = 0 ∧ u.b0 = 0 ∧ u.b2 = 0 := by decide

theorem witness_WaveguideUpdateAndClear :
    (⟨7, 0x22, 0⟩ : Target).wf State.reset.nv [wgCode .b] = true ∧
      ParamsLegal State.reset.params := by decide

theorem witness_WaveguideSample :
    (⟨0, 0x12, 0⟩ : Target).wf (bench .reset).nv [wgCode .a] = true ∧ StateInv (bench .reset) ∧
      let w := ((voiceOf (bench .reset) ⟨0, 0x12, 0⟩).res .a).wg
      (∀ l < 4, V4.zero.lane l = fxDot [((w.radius.lane l).toInt,
          (w.buf.read (4 * w.readPtr.toNat + l)).toInt),
        ((fxSub fxOne (w.radius.lane l)).toInt, (w.yPrev.lane l).toInt)]) ∧
      (∀ l < 4, V4.zero.lane l = fxMul (V4.zero.lane l) w.tubeDecay) ∧
      (∀ l < 4, (V4.splat 3).lane l = if w.isClosed then fxSub ((V4.splat 3).lane l) (V4.zero.lane l)
        else fxAdd ((V4.splat 3).lane l) (V4.zero.lane l)) := by decide

theorem witness_WaveguideDelayAndOctave :
    let w := (tube false 8191).resA.wg
    2 ≤ 8192 ∧ 8192 ≤ 2147483648 ∧ w.writePtr.toNat < 8192 ∧ w.readPtr.toNat < 8192 ∧
      2 ≤ (fxFloorU32 (fxDiv w.srate (fxOfInt 440))).toNat ∧
      (fxFloorU32 (fxDiv w.srate (fxOfInt 440))).toNat ≤ 8192 := by decide

theorem witness_ResonatorParameters :
    (⟨7, 0x20, 0⟩ : Target).wf State.reset.nv [resCode .b] = true ∧ (-1#128).toInt < 0 ∧
      (0 : Int) ≤ (0#128).toInt := by decide

theorem witness_ResonatorActivateUpdateClear :
    (⟨7, 0x20, 0⟩ : Target).wf State.reset.nv [resCode .b] = true ∧
      (6#8).toNat < 7 ∧ 7 ≤ (7#8).toNat ∧ (voiceOf .reset ⟨7, 0x20, 0⟩).resB.model.toNat < 7 ∧
      let s := bench ((tube false 0).setRes .a { (tube false 0).resA with model := 7 })
      (⟨0, 0x10, 0⟩ : Target).wf s.nv [resCode .a] = true ∧
        7 ≤ ((voiceOf s ⟨0, 0x10, 0⟩).res .a).model.toNat := by decide

theorem witness_ResonatorSample :
    let s := bench (Voice.reset.setRes .a { Resonator.reset with active := true, npartials := 64 })
    let s7 := bench (Voice.reset.setRes .a { Resonator.reset with active := true, model := 7 })
    (⟨0, 0x10, 0⟩ : Target).wf s.nv [resCode .a] = true ∧
      ((voiceOf .reset ⟨0, 0x10, 0⟩).res .a).active = false ∧
      ((voiceOf s ⟨0, 0x10, 0⟩).res .a).active = true ∧
      ((voiceOf s ⟨0, 0x10, 0⟩).res .a).model.toNat < 7 ∧
      ((voiceOf s7 ⟨0, 0x10, 0⟩).res .a).active = true ∧
      7 ≤ ((voiceOf s7 ⟨0, 0x10, 0⟩).res .a).model.toNat := by decide

theorem witness_SilenceCounterModes :
    cSil.toInt < (fxAdd (fxAbs ((⟨0, 0, 0, cSil⟩ : V4).lane 3))
      (fxAbs ((⟨0, 0, 0, 1⟩ : V4).lane 3))).toInt ∧
    ∀ l < 4, (fxAdd (fxAbs ((V4.splat cSil).lane l)) (fxAbs (V4.zero.lane l))).toInt ≤ cSil.toInt := by
  decide

theorem witness_VoiceTriggerAndRelease :
    (⟨7, 0x00, 0⟩ : Target).wf State.reset.nv [0x00#8] = true := by decide

theorem witness_VoicePitchUpdateClear :
    (⟨7, 0x00, 0⟩ : Target).wf State.reset.nv [0x00#8] = true ∧
      (let v := voiceOf .reset ⟨7, 0x00, 0⟩
       ¬(v.resA.on = true ∧ v.resB.on = true ∧ v.couple = true)) ∧
      let r : Resonator := { Resonator.reset with on := true }
      let w := voiceOf (bench { Voice.reset with resA := r, resB := r, couple := true }) ⟨0, 0x00, 0⟩
      w.resA.on = true ∧ w.resB.on = true ∧ w.couple = true ∧
        (bench .reset).params.coupleLaw = .identity ∧
        ({ bench .reset with
          params := { Config.defaultParams with coupleLaw := .other } }).params.coupleLaw = .other := by
  decide

theorem getD_replicate (x : Fx) (i : Nat) (hi : i < 64) :
    (List.replicate 64 x).getD i 0#128 = x := by
  rw [List.getD_eq_getElem _ _ (by rw [List.length_replicate]; exact hi), List.getElem_replicate]

/-- Two tables with every entry far from every other one, and two equal ones, where `d` = 0. -/
theorem witness_CouplingLeavesFarEntries :
    ∃ (thresh freq dy : Fx) (ta tb : List Fx) (d dx r : Nat → Nat → Fx),
      ta.length = 64 ∧ tb.length = 64 ∧
      (∀ i j, d i j = fxSub (fxMul (ta.getD i 0#128) freq) (fxMul (tb.getD j 0#128) freq)) ∧
      (∀ i j, dx i j = fxDiv (fxAbs (d i j)) (fxOfInt 2)) ∧
      (∀ i j, r i j = fxDiv
        (fxSub (numSqrt (fxAdd (fxMul (dx i j) (dx i j)) (fxMul dy dy))) (dx i j)) freq) ∧
      (∀ i < 64, ∀ j < 64, thresh.toInt < (fxAbs (d i j)).toInt) ∧
      ∀ i < 64, ∀ j < 64, ¬thresh.toInt <
        (fxAbs (fxSub (fxMul (ta.getD i 0#128) freq) (fxMul (ta.getD j 0#128) freq))).toInt := by
  refine ⟨0#128, fxOne, fxOne, List.replicate 64 fxOne, List.replicate 64 (fxOfInt 2), _, _, _,
    List.length_replicate, List.length_replicate, fun _ _ => rfl, fun _ _ => rfl, fun _ _ => rfl,
    fun i hi j hj => ?_, fun i hi j hj => ?_⟩
  · rw [getD_replicate _ _ hi, getD_replicate _ _ hj]
    decide
  · rw [getD_replicate _ _ hi, getD_replicate _ _ hj]
    decide

theorem witness_PoolNextIsFirstMaximum : 1 ≤ (bench .reset).nv := by decide

/-- One voice in Attack draws one word a frame: two words are enough for two frames, one is not. -/
theorem witness_RenderDrawsAndCompletes :
    rngNeeded 2 (noiseEnvelopes (bench (withEnv attacking))) = 2 ∧
      2 ≤ ({ bench (withEnv attacking) with rngIn := [1, 2] } : State).rngIn.length ∧
      ({ bench (withEnv attacking) with rngIn := [1] } : State).rngIn.length < 2 := by decide

theorem witness_RenderSplitsIntoBlocks :
    (0 : Int) ≤ (1#128).toInt ∧ (0 : Int) ≤ (4294967294#128).toInt ∧
      (1#128).toInt + (4294967294#128).toInt ≤ 4294967295 ∧
      (2#128).toInt = (1#128).toInt + (1#128).toInt ∧
      ∃ s1 s2, exec (.render 1) (bench .reset) = .next s1 ∧ exec (.render 1) s1 = .next s2 :=
  ⟨by decide, by decide, by decide, by decide, _, _, rfl, rfl⟩

theorem witness_RenderSkipsDisabledResonators :
    (∃ s', exec (.render 1) (bench .reset) = .next s') ∧ 0 < (bench .reset).nv ∧
      (voiceAt (bench .reset).voices 0).resA.on = false ∧
      (voiceAt (bench .reset).voices 0).resB.on = false :=
  ⟨⟨_, rfl⟩, by decide, by decide, by decide⟩

/-- `z`, `z + f 0`, `z + f 0 + f 1`, ... in rising index. -/
def partialSums {α : Type} (add : α → α → α) (z : α) (f : Nat → α) : Nat → α
  | 0 => z
  | n + 1 => add (partialSums add z f n) (f n)

theorem witness_RenderFrameMix :
    let s : State := { State.reset with voices := [withEnv attacking, struck], rngIn := [c05, 7] }
    ∃ (v : Nat → Voice) (n : Nat → Noise) (m ns dir : Nat → Fx) (ser : Nat → Bool)
      (rng : Nat → List Word) (e4 a b inB res : Nat → V4),
      (∀ j, v j = voiceAt s.voices j ∧ m j = (mltProcess (v j).mallet).2 ∧
        ser j = ((v j).resA.on && (v j).resB.on && (v j).couple)) ∧
      rng 0 = s.rngIn ∧
      (∀ j < s.nv, nseProcess (v j).noise (rng j) = some (n j, ns j, rng (j + 1))) ∧
      dir 0 = 0#128 ∧
      (∀ j < s.nv, dir (j + 1) = fxAdd (dir j) (fxDot
        [((m j).toInt, s.globals.malletMix.toInt), ((ns j).toInt, s.globals.noiseMix.toInt)])) ∧
      (∀ j < s.nv, e4 j = V4.splat (fxDot
        [((m j).toInt, s.globals.malletRes.toInt), ((ns j).toInt, s.globals.noiseRes.toInt)])) ∧
      (∀ j < s.nv, a j = if (v j).resA.on then
        (fltDf1Four (v j).resA.post (resProcess s.params (v j).resA (e4 j)).2).y0 else V4.zero) ∧
      (∀ j < s.nv, inB j = if ser j then a j else e4 j) ∧
      (∀ j < s.nv, b j = if (v j).resB.on then
        (fltDf1Four (v j).resB.post (resProcess s.params (v j).resB (inB j)).2).y0 else V4.zero) ∧
      res 0 = V4.zero ∧
      (∀ j < s.nv, res (j + 1) = V4.add (res j) (if ser j then b j else V4.add (a j) (b j))) ∧
      (0#128).toInt ≤ 0 := by
  intro s
  let p := nseSample (withEnv attacking).noise c05
  let v := fun j => voiceAt s.voices j
  let ser := fun j => (v j).resA.on && (v j).resB.on && (v j).couple
  let m := fun j => (mltProcess (v j).mallet).2
  let ns := fun j => if j = 0 then p.2 else 0#128
  let dirOf := fun j => fxDot
    [((m j).toInt, s.globals.malletMix.toInt), ((ns j).toInt, s.globals.noiseMix.toInt)]
  let e4 := fun j => V4.splat (fxDot
    [((m j).toInt, s.globals.malletRes.toInt), ((ns j).toInt, s.globals.noiseRes.toInt)])
  let a := fun j => if (v j).resA.on then
    (fltDf1Four (v j).resA.post (resProcess s.params (v j).resA (e4 j)).2).y0 else V4.zero
  let inB := fun j => if ser j then a j else e4 j
  let b := fun j => if (v j).resB.on then
    (fltDf1Four (v j).resB.post (resProcess s.params (v j).resB (inB j)).2).y0 else V4.zero
  refine ⟨v, fun j => if j = 0 then p.1 else struck.noise, m, ns, partialSums fxAdd 0#128 dirOf, ser,
    fun j => if j = 0 then [c05, 7] else [7], e4, a, b, inB,
    partialSums V4.add V4.zero fun j => if ser j then b j else V4.add (a j) (b j),
    fun _ => ⟨rfl, rfl, rfl⟩, rfl, fun j hj => ?_, rfl, fun _ _ => rfl, fun _ _ => rfl,
    fun _ _ => rfl, fun _ _ => rfl, fun _ _ => rfl, rfl, fun _ _ => rfl, by decide⟩
  obtain rfl | rfl : j = 0 ∨ j = 1 := by
    have : s.nv = 2 := rfl
    omega
  · rfl
  · rfl

/-- Every real number can be rounded (R110). -/
theorem exists_rounded (r : ℝ) : ∃ w, IsRounded r w := by
  suffices h : ∃ i : Int, |r * 2 ^ 64 - i| ≤ 1 / 2 ∧ (|r * 2 ^ 64 - i| = 1 / 2 → i % 2 = 0) by
    obtain ⟨i, h1, h2⟩ := h
    exact ⟨fxSat i, i, h1, h2, rfl⟩
  generalize r * 2 ^ 64 = x
  have h0 := Int.floor_le x
  have h1 := Int.lt_floor_add_one x
  rcases lt_trichotomy (x - ⌊x⌋) (1 / 2) with h | h | h
  · refine ⟨⌊x⌋, ?_, fun he => ?_⟩ <;> rw [abs_of_nonneg (by linarith)] at *
    · linarith
    · linarith
  · rcases Int.emod_two_eq_zero_or_one ⌊x⌋ with hp | hp
    · exact ⟨⌊x⌋, by rw [abs_of_nonneg (by linarith)]; linarith, fun _ => hp⟩
    · refine ⟨⌊x⌋ + 1, ?_, fun _ => by omega⟩
      rw [abs_of_nonpos (by push_cast; linarith)]
      push_cast
      linarith
  · refine ⟨⌊x⌋ + 1, ?_, fun he => ?_⟩ <;>
      rw [abs_of_nonpos (by push_cast; linarith)] at * <;> push_cast at * <;> linarith

theorem witness_RefNumHasExactPowers : ∃ num, IsRefNum num := by
  choose rn hrn using exists_rounded
  refine ⟨
    { exp := fun x => rn (Real.exp (x.toInt / 2 ^ 64))
      ln := fun x => if 0 < x.toInt then rn (Real.log (x.toInt / 2 ^ 64)) else fxMin127
      sin := fun x => rn (Real.sin (x.toInt / 2 ^ 64))
      cos := fun x => rn (Real.cos (x.toInt / 2 ^ 64))
      sqrt := fun x => if 0 ≤ x.toInt then rn (Real.sqrt (x.toInt / 2 ^ 64)) else 0#128
      pow := fun x y =>
        if 0 < x.toInt then rn (Real.exp (y.toInt / 2 ^ 64 * Real.log (x.toInt / 2 ^ 64)))
        else if x.toInt < 0 then 0#128
        else if 0 < y.toInt then 0#128 else if y.toInt < 0 then fxMax127 else fxOne }, ?_⟩
  constructor
  · exact fun x => hrn _
  · intro x h; simp only [if_pos h]; exact hrn _
  · intro x h; simp only [if_neg (Int.not_lt.2 h)]
  · exact fun x => hrn _
  · exact fun x => hrn _
  · intro x h; simp only [if_pos h]; exact hrn _
  · intro x h; simp only [if_neg (Int.not_le.2 h)]
  · intro x y h; simp only [if_neg (show ¬0 < x.toInt by omega), if_pos h]
  · intro y h; simp [h]
  · simp
  · intro y h; simp [h, show ¬0 < y.toInt by omega]
  · intro x y h; simp only [if_pos h]; exact hrn _

end Sys2Proof.Tests
end

section
/-! SUPPORT. The VOI commands of spec/47_voice.md R239 to R241 on a legal target, and the two ratio
tables that `VOI.UPD` pushes into the Resonators. -/

namespace Sys2Proof.Machine

/-! ### A command on a whole voice -/

/-- The one legal selector of the VOI rows names the voice (R82, R84). -/
theorem selVoice_wf {nv : Nat} {t : Target} (h : t.wf nv [0x00#8] = true) :
    selVoice t.u = some () := by
  obtain ⟨-, hu, -, -⟩ := (Target.wf_iff nv [0x00#8] t).1 h
  rw [List.mem_singleton.1 hu]
  rfl

/-- A VOI command on a legal target replaces the voice it addresses and answers `OK`. -/
theorem atVoice_selVoice_wf {t : Target} {s : State} (f : Voice → Voice)
    (h : t.wf s.nv [0x00#8] = true) :
    atVoice selVoice t s (fun _ v => (f v, [])) =
      .next (respond .ok [] (withVoice s t (f (voiceOf s t)))) :=
  atVoice_wf selVoice [0x00#8] t s (fun _ v => (f v, [])) () h (selVoice_wf h)

theorem exec_voiPitch_wf {t : Target} {s : State} (coarseA coarseB fineA fineB : Word)
    (h : t.wf s.nv [0x00#8] = true) :
    exec (.voiPitch t coarseA coarseB fineA fineB) s = .next (respond .ok [] (withVoice s t
      { voiceOf s t with
        pitchA := voiPitchFactor coarseA fineA, pitchB := voiPitchFactor coarseB fineB })) :=
  atVoice_selVoice_wf (fun v =>
    { v with pitchA := voiPitchFactor coarseA fineA, pitchB := voiPitchFactor coarseB fineB }) h

theorem exec_voiUpd_wf {t : Target} {s : State} (h : t.wf s.nv [0x00#8] = true) :
    exec (.voiUpd t) s = .next (respond .ok [] (withVoice s t
      (voiUpdateResonators s.params s.models (voiceOf s t)))) :=
  atVoice_selVoice_wf (voiUpdateResonators s.params s.models) h

theorem exec_voiClr_wf {t : Target} {s : State} (h : t.wf s.nv [0x00#8] = true) :
    exec (.voiClr t) s = .next (respond .ok [] (withVoice s t (voiClear (voiceOf s t)))) :=
  atVoice_selVoice_wf voiClear h

/-! ### The two ratio tables (R240) -/

/-- Steps 1 and 2 of R240 entry by entry: a factor of one leaves the entry as the model memory has
it. -/
theorem voiScaleTable_mdlTable (models : Memory) (sd : Side) (m : Nat) (pitch : Fx) :
    voiScaleTable (mdlTable models sd m) pitch = (List.range 64).map fun k =>
      if pitch = fxOne then mdlRead models sd m k else fxMul (mdlRead models sd m k) pitch := by
  by_cases hp : pitch = fxOne
  · simp only [voiScaleTable, mdlTable, Config.mdlLen, ne_eq, hp, not_true_eq_false, if_false,
      if_true]
  · simp only [voiScaleTable, mdlTable, Config.mdlLen, ne_eq, hp, not_false_eq_true, if_true,
      if_false, List.map_map, Function.comp_def]

theorem coupledFlag_iff (v : Voice) :
    coupledFlag v = true ↔ v.resA.on = true ∧ v.resB.on = true ∧ v.couple = true := by
  simp only [coupledFlag, Bool.and_eq_true, and_assoc]

/-- Step 3 of R240: the scaled tables are coupled exactly if both Resonators are on and coupling is
requested. -/
theorem voiTables_eq (p : Params) (models : Memory) (v : Voice) :
    voiTables p models v =
      if v.resA.on = true ∧ v.resB.on = true ∧ v.couple = true then
        voiCoupleTables p.coupleThresh v.freq (voiCoupleDy p v.split)
          (voiScaleTable (mdlTable models .a v.resA.model.toNat) v.pitchA,
            voiScaleTable (mdlTable models .b v.resB.model.toNat) v.pitchB)
      else
        (voiScaleTable (mdlTable models .a v.resA.model.toNat) v.pitchA,
          voiScaleTable (mdlTable models .b v.resB.model.toNat) v.pitchB) := by
  simp only [voiTables, coupledFlag_iff]

/-! ### The statement -/

/-- Settles O53: each command is the shared rule for a VOI command on a legal target, and the tables
are the scaled model tables, coupled or not. -/
theorem voicePitchUpdateClear : Obligations.VoicePitchUpdateClear := by
  rintro s t coarseA coarseB fineA fineB v tabs hwf rfl rfl
  refine ⟨exec_voiPitch_wf coarseA coarseB fineA fineB hwf, exec_voiUpd_wf hwf, ?_,
    exec_voiClr_wf hwf⟩
  intro ta tb dy hdy hta htb
  have hlaw : dy = voiCoupleDy s.params (voiceOf s t).split := hdy
  rw [voiTables_eq, voiScaleTable_mdlTable, voiScaleTable_mdlTable, ← hta, ← htb, ← hlaw]

end Sys2Proof.Machine
end

section
/-! SUPPORT. What a command that addresses no unit can do, and what a step can do, said once: the
frames, the ports and the invariant of spec/10_state.md are read off these cases and off
`exec_unit_ends`. -/

namespace Sys2Proof.Machine

/-! ### One frame and many frames (R262) -/

/-- A voice moves from `v` to `v'` in one frame, whatever waits on `RNGIN`. -/
def FrameStep (p : Params) (g : Globals) (v v' : Voice) : Prop :=
  ∃ rng f rest, voiceFrame p g v rng = some (f, rest) ∧ f.voice = v'

theorem voiceFrame_some {p : Params} {g : Globals} {v : Voice} {rng rest : List Word}
    {f : VoiceFrame} (h : voiceFrame p g v rng = some (f, rest)) :
    ∃ n ns, nseProcess v.noise rng = some (n, ns, rest) ∧
      f = voiceFrameOf p g { v with mallet := (mltProcess v.mallet).1, noise := n }
        (mltProcess v.mallet).2 ns := by
  unfold voiceFrame at h
  cases hn : nseProcess v.noise rng with
  | none => simp [hn] at h
  | some r =>
    obtain ⟨n, ns, left⟩ := r
    simp only [hn, Option.some.injEq, Prod.mk.injEq] at h
    obtain ⟨hf, rfl⟩ := h
    exact ⟨n, ns, rfl, hf.symm⟩

/-- A Noise takes words only from the front of `RNGIN` (R70, R176). -/
theorem nseProcess_suffix {u n : Noise} {x : Fx} {rng rest : List Word}
    (h : nseProcess u rng = some (n, x, rest)) : rest <:+ rng := by
  rcases nseProcess_cases u rng with ⟨hp, -, -⟩ | ⟨hp, -⟩ | ⟨r, left, hr, -, hp⟩
  · simp [hp] at h
  · simp only [hp, Option.some.injEq, Prod.mk.injEq] at h
    obtain ⟨-, -, rfl⟩ := h
    exact List.suffix_refl _
  · simp only [hp, Option.some.injEq, Prod.mk.injEq] at h
    obtain ⟨-, -, rfl⟩ := h
    exact hr ▸ List.suffix_cons r left

theorem voiceFrame_suffix {p : Params} {g : Globals} {v : Voice} {rng rest : List Word}
    {f : VoiceFrame} (h : voiceFrame p g v rng = some (f, rest)) : rest <:+ rng := by
  obtain ⟨n, ns, hn, -⟩ := voiceFrame_some h
  exact nseProcess_suffix hn

/-- The voice loop moves every voice by one frame, in place, and takes words from the front. -/
theorem frameVoices_some {p : Params} {g : Globals} {vs : List Voice} {dir : Fx} {res : V4}
    {rng : List Word} {acc : FrameAcc} (h : frameVoices p g vs dir res rng = some acc) :
    List.Forall₂ (FrameStep p g) vs acc.voices ∧ acc.rng <:+ rng := by
  induction vs generalizing dir res rng acc with
  | nil =>
    cases h
    exact ⟨.nil, List.suffix_refl _⟩
  | cons v vs ih =>
    unfold frameVoices at h
    cases hv : voiceFrame p g v rng with
    | none => simp [hv] at h
    | some r =>
      obtain ⟨f, rest⟩ := r
      cases ha : frameVoices p g vs (fxAdd dir f.direct) (V4.add res f.out) rest with
      | none => simp [hv, ha] at h
      | some left =>
        simp only [hv, ha, Option.some.injEq] at h
        obtain ⟨hstep, hsuf⟩ := ih ha
        subst h
        exact ⟨.cons ⟨rng, f, rest, hv, rfl⟩ hstep, hsuf.trans (voiceFrame_suffix hv)⟩

/-- One move of every element in place, then many, are many. -/
theorem forall₂_reflTransGen_head {α : Type} {R : α → α → Prop} {as bs cs : List α}
    (hone : List.Forall₂ R as bs) (hmany : List.Forall₂ (Relation.ReflTransGen R) bs cs) :
    List.Forall₂ (Relation.ReflTransGen R) as cs := by
  induction hone generalizing cs with
  | nil => exact hmany
  | cons hab _ ih =>
    cases hmany with
    | cons hbc htail => exact .cons (.head hab hbc) (ih htail)

/-- Frames move every voice by single frames, in place, and take words from the front. -/
theorem renderFrames_some {p : Params} {g : Globals} {n : Nat} {vs vs' : List Voice}
    {rng ws rest : List Word} (h : renderFrames p g n vs rng = some (vs', ws, rest)) :
    List.Forall₂ (Relation.ReflTransGen (FrameStep p g)) vs vs' ∧ rest <:+ rng := by
  induction n generalizing vs rng vs' ws rest with
  | zero =>
    cases h
    exact ⟨List.forall₂_refl _, List.suffix_refl _⟩
  | succ n ih =>
    unfold renderFrames at h
    cases ha : frameVoices p g vs 0#128 .zero rng with
    | none => simp [ha] at h
    | some acc =>
      cases hr : renderFrames p g n acc.voices acc.rng with
      | none => simp [ha, hr] at h
      | some r =>
        obtain ⟨vs₁, ws₁, rest₁⟩ := r
        simp only [ha, hr, Option.some.injEq, Prod.mk.injEq] at h
        obtain ⟨rfl, -, rfl⟩ := h
        obtain ⟨hone, hfront⟩ := frameVoices_some ha
        obtain ⟨hmany, hleft⟩ := ih hr
        exact ⟨forall₂_reflTransGen_head hone hmany, hleft.trans hfront⟩

/-! ### Commands that address no unit -/

/-- All that a command `i` with units `-` or a side (R84) can do to a state. -/
inductive WholeEffect (i : Instr) (s : State) : State → Prop where
  /-- a query, or an error: the response alone -/
  | answer (e : Status) (ws : List Word) : WholeEffect i s (respond e ws s)
  /-- `SYS.RESET` (R276) -/
  | reset (hi : i = .sysReset) : WholeEffect i s (respond .ok [] (resetUnits s))
  /-- `SYS.SUSPEND` and `SYS.RESUME` (R281, R282) -/
  | flush (hi : i = .sysSuspend ∨ i = .sysResume) : WholeEffect i s (respond .ok [] (sysFlush s))
  /-- `CFG.WR` (R277) -/
  | globals (k : BitVec 8) (x : Word) (g : Globals) (hi : i = .cfgWr k x)
      (hg : writeGlobal s.globals k.toNat x = some g) :
      WholeEffect i s (respond .ok [] { s with globals := g })
  /-- `MDL.WR` (R283) -/
  | models (u : BitVec 8) (m e x : Word) (sd : Side) (mi ei : Nat) (hi : i = .mdlWr u m e x)
      (hm : mdlIndex m = some mi) (he : mdlIndex e = some ei) :
      WholeEffect i s (respond .ok [] { s with models := mdlWrite s.models sd mi ei x })
  /-- `NOTE.ON` (R257) -/
  | noteOn (note velocity : Word) (hi : i = .noteOn note velocity) :
      WholeEffect i s (respond .ok [wordOfNat (poolNext s.voices)]
        (setVoice (poolNext s.voices)
          (voiTrigger s.params s.models (voiceAt s.voices (poolNext s.voices)) s.globals.srate
            (opInt 0 127 note) (opInt 0 127 velocity) s.globals.malletFreq) s))
  /-- `NOTE.OFF` (R258) -/
  | noteOff (note : Word) (hi : i = .noteOff note) :
      WholeEffect i s (respond .ok [wordOfNat (s.voices.countP (noteHeld (legalNote note)))]
        { s with
          voices := s.voices.map fun v =>
            if noteHeld (legalNote note) v then voiRelease s.params s.models v else v })
  /-- `RENDER` (R262) -/
  | render (frameCount : Word) (n : Nat) (vs : List Voice) (ws rest : List Word)
      (hi : i = .render frameCount) (hn : n = (opInt 0 Config.framesMax frameCount).toNat)
      (hr : renderFrames s.params s.globals n s.voices s.rngIn = some (vs, ws, rest)) :
      WholeEffect i s (respond .ok ws { s with voices := vs.map (advanceFrames n), rngIn := rest })

/-- A result that goes on does so by one of the effects of `WholeEffect`. -/
abbrev EndsWhole (i : Instr) (s : State) (r : Result) : Prop :=
  ∀ s', r = .next s' → WholeEffect i s s'

theorem complete_endsWhole {i : Instr} {s₀ s : State} {ws : List Word}
    (h : WholeEffect i s₀ (respond .ok ws s)) : EndsWhole i s₀ (complete ws s) := by
  rintro _ ⟨⟩
  exact h

theorem raiseError_endsWhole (i : Instr) (s : State) (e : Status) :
    EndsWhole i s (raiseError e s) := by
  rintro _ ⟨⟩
  exact .answer e []

theorem execCfgWr_endsWhole (k : BitVec 8) (x : Word) (s : State) :
    EndsWhole (.cfgWr k x) s (execCfgWr k x s) := by
  unfold execCfgWr
  cases hg : writeGlobal s.globals k.toNat x with
  | none => exact raiseError_endsWhole _ s .index
  | some g => exact complete_endsWhole (.globals k x g rfl hg)

theorem execCfgRd_endsWhole (k : BitVec 8) (s : State) :
    EndsWhole (.cfgRd k) s (execCfgRd k s) := by
  unfold execCfgRd
  cases readGlobal s.globals k.toNat with
  | none => exact raiseError_endsWhole _ s .index
  | some x => exact complete_endsWhole (.answer .ok [x])

theorem execMdlWr_endsWhole (u : BitVec 8) (m e x : Word) (s : State) :
    EndsWhole (.mdlWr u m e x) s (execMdlWr u m e x s) := by
  unfold execMdlWr
  cases sideOfCode u with
  | none => exact raiseError_endsWhole _ s .unit
  | some sd =>
    cases hm : mdlIndex m with
    | none => exact raiseError_endsWhole _ s .index
    | some mi =>
      cases he : mdlIndex e with
      | none => exact raiseError_endsWhole _ s .index
      | some ei => exact complete_endsWhole (.models u m e x sd mi ei rfl hm he)

theorem execMdlRd_endsWhole (u : BitVec 8) (m e : Word) (s : State) :
    EndsWhole (.mdlRd u m e) s (execMdlRd u m e s) := by
  unfold execMdlRd
  cases sideOfCode u with
  | none => exact raiseError_endsWhole _ s .unit
  | some sd =>
    cases mdlIndex m with
    | none => exact raiseError_endsWhole _ s .index
    | some mi =>
      cases mdlIndex e with
      | none => exact raiseError_endsWhole _ s .index
      | some ei => exact complete_endsWhole (.answer .ok _)

theorem execRender_endsWhole (frameCount : Word) (s : State) :
    EndsWhole (.render frameCount) s (execRender frameCount s) := by
  unfold execRender
  dsimp only
  cases hr : renderFrames s.params s.globals (opInt 0 Config.framesMax frameCount).toNat s.voices
      s.rngIn with
  | none => rintro _ ⟨⟩
  | some r => exact complete_endsWhole (.render frameCount _ _ _ _ rfl rfl hr)

/-- How any command that addresses no unit ends, if it does not wait. -/
theorem exec_whole_ends (i : Instr) (s : State) (hu : unitTarget i = none) :
    EndsWhole i s (exec i s) := by
  cases i with
  | nop => exact complete_endsWhole (.answer .ok [])
  | sysReset => exact complete_endsWhole (.reset rfl)
  | cfgWr k x => exact execCfgWr_endsWhole k x s
  | cfgRd k => exact execCfgRd_endsWhole k s
  | sysSuspend => exact complete_endsWhole (.flush (.inl rfl))
  | sysResume => exact complete_endsWhole (.flush (.inr rfl))
  | mdlWr u m e x => exact execMdlWr_endsWhole u m e x s
  | mdlRd u m e => exact execMdlRd_endsWhole u m e s
  | poolNext => exact complete_endsWhole (.answer .ok _)
  | noteOn note velocity => exact complete_endsWhole (.noteOn note velocity rfl)
  | noteOff note => exact complete_endsWhole (.noteOff note rfl)
  | render frameCount => exact execRender_endsWhole frameCount s
  | _ => cases hu

/-! ### Commands on a unit -/

/-- The state after a command on a unit, if it does not wait: the cases of `UnitEnds` that go on. -/
theorem exec_unit_next {i : Instr} {s s' : State} {t : Target} {us : List (BitVec 8)}
    (hu : unitTarget i = some (t, us)) (h : exec i s = .next s') :
    (∃ e, s' = respond e [] s) ∨
    ∃ v ws rng drawn, s' = respond .ok ws { setVoice t.v.toNat v s with rngIn := rng } ∧
      s.rngIn = drawn ++ rng ∧ ((∀ t', i ≠ .nseProc t') → drawn = []) := by
  rcases exec_unit_ends i s t us hu with
    ⟨e, -, he⟩ | ⟨hw, -⟩ | ⟨v, ws, rng, drawn, -, hr, -, hrng, hd⟩
  · exact .inl ⟨e, Host.Outcome.next.inj (h.symm.trans he)⟩
  · cases h.symm.trans hw
  · exact .inr ⟨v, ws, rng, drawn, Host.Outcome.next.inj (h.symm.trans hr), hrng, hd⟩

/-! ### One step -/

/-- A step that goes on answers a status, or runs a command on the state without its words (R66). -/
theorem step_next {s s' : State} (h : step s = .next s') :
    ∃ rest, (∃ e, s' = respond e [] (s.withCmdIn rest)) ∨
      ∃ i, exec i (s.withCmdIn rest) = .next s' := by
  unfold step at h
  split at h
  · cases h
  · next e rest _ => exact ⟨rest, .inl ⟨e, (Host.Outcome.next.inj h).symm⟩⟩
  · next i rest _ => exact ⟨rest, .inr ⟨i, h⟩⟩

/-! ### The frames and the ports -/

theorem exec_keeps_params {i : Instr} {s s' : State} (h : exec i s = .next s') :
    s'.params = s.params := by
  cases hu : unitTarget i with
  | none => cases exec_whole_ends i s hu s' h <;> rfl
  | some u =>
    rcases exec_unit_next hu h with ⟨e, rfl⟩ | ⟨v, ws, rng, drawn, rfl, -, -⟩ <;> rfl

theorem exec_keeps_nv {i : Instr} {s s' : State} (h : exec i s = .next s') : s'.nv = s.nv := by
  cases hu : unitTarget i with
  | none =>
    cases exec_whole_ends i s hu s' h with
    | render frameCount n vs ws rest hi hn hr =>
      have hlen := (renderFrames_some hr).1.length_eq
      simp [State.nv, hlen]
    | _ => simp [State.nv]
  | some u =>
    rcases exec_unit_next hu h with ⟨e, rfl⟩ | ⟨v, ws, rng, drawn, rfl, -, -⟩ <;> simp [State.nv]

/-- Settles O13: a step is a status word or a command, and no command changes either. -/
theorem parametersAndPoolSizeFixed : Obligations.ParametersAndPoolSizeFixed := by
  intro s s' h
  obtain ⟨rest, ⟨e, rfl⟩ | ⟨i, hi⟩⟩ := step_next h
  · exact ⟨rfl, rfl⟩
  · exact ⟨(exec_keeps_params hi).trans (withCmdIn_params s rest),
      (exec_keeps_nv hi).trans (withCmdIn_nv s rest)⟩

/-- Settles O14: the one effect that changes the globals besides the reset is that of `CFG.WR`, and
the one that changes the model memory is that of `MDL.WR`. -/
theorem globalsAndModelsHaveOneWriter : Obligations.GlobalsAndModelsHaveOneWriter := by
  intro i s s' h
  cases hu : unitTarget i with
  | none =>
    cases exec_whole_ends i s hu s' h with
    | reset hi => exact ⟨fun _ hn => absurd hi hn, fun _ hn => absurd hi hn⟩
    | globals k x g hi => exact ⟨fun hn _ => absurd hi (hn k x), fun _ _ => rfl⟩
    | models u m e x sd mi ei hi => exact ⟨fun _ _ => rfl, fun hn _ => absurd hi (hn u m e x)⟩
    | _ => exact ⟨fun _ _ => rfl, fun _ _ => rfl⟩
  | some u =>
    rcases exec_unit_next hu h with ⟨e, rfl⟩ | ⟨v, ws, rng, drawn, rfl, -, -⟩ <;>
      exact ⟨fun _ _ => rfl, fun _ _ => rfl⟩

/-- Settles O15: a command on a unit replaces the voice it names and, if it is `NSE.PROC`, takes
words from `RNGIN`. -/
theorem unitCommandTouchesOneVoice : Obligations.UnitCommandTouchesOneVoice := by
  intro i s s' t us hu h
  rcases exec_unit_next hu h with ⟨e, rfl⟩ | ⟨v, ws, rng, drawn, rfl, hrng, hd⟩
  · exact ⟨rfl, rfl, rfl, rfl, fun _ _ => rfl, fun _ => rfl⟩
  · refine ⟨rfl, rfl, rfl, rfl, fun j hj => List.getElem?_set_ne hj.symm, fun hn => ?_⟩
    rw [hrng, hd hn]
    rfl

/-- Settles O16: the words left on `RNGIN` are a suffix, and `NSE.PROC` and `RENDER` alone take
any. -/
theorem portsMoveForward : Obligations.PortsMoveForward := by
  intro i s s' h
  cases hu : unitTarget i with
  | none =>
    cases exec_whole_ends i s hu s' h with
    | render frameCount n vs ws rest hi hn hr =>
      obtain ⟨drawn, hdrawn⟩ := (renderFrames_some hr).2
      exact ⟨rfl, drawn, hdrawn.symm, fun _ hn => absurd hi (hn frameCount)⟩
    | _ => exact ⟨rfl, [], rfl, fun _ _ => rfl⟩
  | some u =>
    rcases exec_unit_next hu h with ⟨e, rfl⟩ | ⟨v, ws, rng, drawn, rfl, hrng, hd⟩
    · exact ⟨rfl, [], rfl, fun _ _ => rfl⟩
    · exact ⟨rfl, drawn, hrng, fun hn _ => hd hn⟩

end Sys2Proof.Machine
end

section
/-! SUPPORT. The invariant `StateInv`, unit by unit from the pointers of a Waveguide up to the
machine: every procedure keeps its unit's part of it (spec/10_state.md R35 to R37). -/

namespace Sys2Proof.Machine

/-! ### Clamped values in narrow registers (R36) -/

theorem clampInt_bounds (i : Int) {lo hi : Int} (h : lo ≤ hi) :
    lo ≤ clampInt i lo hi ∧ clampInt i lo hi ≤ hi := by
  unfold clampInt
  split
  · omega
  · split <;> omega

/-- A register of `w` bits holds an integer in its range as it is. -/
theorem toNat_ofInt_of_lt (w : Nat) {i : Int} (h0 : 0 ≤ i) (h : i < 2 ^ w) :
    ((BitVec.ofInt w i).toNat : Int) = i := by
  rw [BitVec.toNat_ofInt, Int.toNat_of_nonneg (Int.emod_nonneg _ (by positivity))]
  exact Int.emod_eq_of_lt h0 (by exact_mod_cast h)

theorem legalModel_le (w : Word) : (legalModel w).toNat ≤ 63 := by
  obtain ⟨h0, h1⟩ := clampInt_bounds (sint w) (show (0 : Int) ≤ 63 by decide)
  have := toNat_ofInt_of_lt 8 h0 (by omega)
  unfold legalModel
  omega

theorem legalNPartials_le (w : Word) : (legalNPartials w).toNat ≤ 64 := by
  obtain ⟨h0, h1⟩ := clampInt_bounds (sint w) (show (0 : Int) ≤ 64 by decide)
  have := toNat_ofInt_of_lt 8 h0 (by omega)
  unfold legalNPartials
  omega

theorem mdlIndex_le {w : Word} {n : Nat} (h : mdlIndex w = some n) : n ≤ 63 := by
  unfold mdlIndex at h
  split at h
  · cases h
  · cases h
    omega

section WaveguideBounds

variable {n : Nat} (hn : 2 ≤ n ∧ n ≤ 2147483648)
include hn

theorem legalPtr_lt (w : Word) : (legalPtr n w).toNat < n := by
  obtain ⟨h0, h1⟩ := clampInt_bounds (sint w) (show (0 : Int) ≤ (n : Int) - 1 by omega)
  have := toNat_ofInt_of_lt 32 h0 (by omega)
  unfold legalPtr
  omega

theorem legalTlen_le (w : Word) : (legalTlen n w).toNat ≤ n := by
  obtain ⟨h0, h1⟩ := clampInt_bounds (sint w) (show (1 : Int) ≤ n by omega)
  have := toNat_ofInt_of_lt 32 (show 0 ≤ clampInt (sint w) 1 n by omega) (by omega)
  unfold legalTlen
  omega

theorem wgdTubeLen_le (u : Waveguide) (f0 : Fx) : wgdTubeLen n u f0 ≤ n := by
  unfold wgdTubeLen
  exact Int.toNat_le.2 (clampInt_bounds _ (show (1 : Int) ≤ n by omega)).2

theorem wgdAdvance_lt (p : U32) : (wgdAdvance n p).toNat < n := by
  unfold wgdAdvance
  rw [BitVec.toNat_ofNat]
  exact (Nat.mod_le _ _).trans_lt (Nat.mod_lt _ (by omega))

/-! ### The Waveguide -/

theorem Waveguide.reset_inv : WaveguideInv n .reset :=
  ⟨show 0 < n by omega, show 0 < n by omega, Nat.zero_le n, Memory.wf_nil, Memory.below_nil _⟩

theorem wgdUpdate_inv {u : Waveguide} (h : WaveguideInv n u) (f0 vel : Fx) (isRelease : Bool) :
    WaveguideInv n (wgdUpdate n u f0 vel isRelease) := by
  obtain ⟨-, hw, -, hwf, hbelow⟩ := h
  have htube := wgdTubeLen_le hn u f0
  refine ⟨?_, hw, ?_, hwf, hbelow⟩
  · have h0 := Int.emod_nonneg ((u.writePtr.toNat : Int) - wgdTubeLen n u f0)
      (show (n : Int) ≠ 0 by omega)
    have h1 := Int.emod_lt_of_pos ((u.writePtr.toNat : Int) - wgdTubeLen n u f0)
      (show 0 < (n : Int) by omega)
    have := toNat_ofInt_of_lt 32 h0 (by omega)
    simp only [wgdUpdate]
    omega
  · simp only [wgdUpdate, BitVec.toNat_ofNat]
    exact (Nat.mod_le _ _).trans htube

theorem wgdProcess_inv {u : Waveguide} (h : WaveguideInv n u) (x : V4) :
    WaveguideInv n (wgdProcess n u x) := by
  obtain ⟨-, hw, ht, hwf, hbelow⟩ := h
  exact ⟨wgdAdvance_lt hn _, wgdAdvance_lt hn _, ht, wgWrite_wf _ _ _ hwf,
    wgWrite_below _ _ _ _ hbelow hw⟩

theorem wgdClear_inv {u : Waveguide} (h : WaveguideInv n u) : WaveguideInv n (wgdClear u) :=
  have ⟨_, _, ht, _, _⟩ := h
  ⟨show 0 < n by omega, show 0 < n by omega, ht, Memory.wf_nil, Memory.below_nil _⟩

theorem writeWaveguide_inv {u u' : Waveguide} (h : WaveguideInv n u) {w : Word} {f : Nat}
    (hw : writeWaveguide n u w f = some u') : WaveguideInv n u' := by
  obtain ⟨hr, hp, ht, hwf, hbelow⟩ := h
  unfold writeWaveguide at hw
  split at hw
  all_goals try (cases hw; exact ⟨hr, hp, ht, hwf, hbelow⟩)
  -- `read_ptr`, `write_ptr`, `tlen`, and a word of the delay buffer are left
  · cases hw
    exact ⟨legalPtr_lt hn w, hp, ht, hwf, hbelow⟩
  · cases hw
    exact ⟨hr, legalPtr_lt hn w, ht, hwf, hbelow⟩
  · cases hw
    exact ⟨hr, hp, legalTlen_le hn w, hwf, hbelow⟩
  · split at hw
    · cases hw
      exact ⟨hr, hp, ht, Memory.write_wf _ _ _ hwf, Memory.write_below _ _ _ _ hbelow (by omega)⟩
    · cases hw

/-! ### The Resonator -/

theorem Resonator.reset_inv : ResonatorInv n .reset :=
  ⟨Nat.zero_le _, Nat.zero_le _, Waveguide.reset_inv hn⟩

theorem resUpdate_inv {u : Resonator} (h : ResonatorInv n u) (freq vel : Fx) (isRelease : Bool)
    (model : List Fx) : ResonatorInv n (resUpdate n u freq vel isRelease model) := by
  obtain ⟨hm, hp, hw⟩ := h
  unfold resUpdate
  split
  · exact ⟨hm, hp, hw⟩
  · exact ⟨hm, hp, wgdUpdate_inv hn hw _ _ _⟩

theorem resStepVariant_inv {u : Resonator} (h : ResonatorInv n u) (x : V4) :
    ResonatorInv n (resStepVariant n u x) := by
  obtain ⟨hm, hp, hw⟩ := h
  unfold resStepVariant
  split
  · exact ⟨hm, hp, hw⟩
  · exact ⟨hm, hp, wgdProcess_inv hn hw x⟩

theorem resClear_inv {u : Resonator} (h : ResonatorInv n u) : ResonatorInv n (resClear u) :=
  have ⟨hm, hp, hw⟩ := h
  ⟨hm, hp, wgdClear_inv hn hw⟩

theorem voiStartResonator_inv {r : Resonator} (h : ResonatorInv n r) :
    ResonatorInv n (voiStartResonator r) := by
  have hclear := resClear_inv hn h
  unfold voiStartResonator
  split <;> exact hclear

theorem Voice.reset_inv : VoiceInv n .reset := ⟨Resonator.reset_inv hn, Resonator.reset_inv hn⟩

theorem voiClear_inv {v : Voice} (h : VoiceInv n v) : VoiceInv n (voiClear v) :=
  ⟨resClear_inv hn h.1, resClear_inv hn h.2⟩

end WaveguideBounds

theorem resSetParams_inv {n : Nat} {u : Resonator} (h : ResonatorInv n u) {p : ResParams}
    (hm : p.model.toNat ≤ 63) (hp : p.npartials.toNat ≤ 64) : ResonatorInv n (resSetParams u p) :=
  have ⟨_, _, hw⟩ := h
  ⟨hm, hp, hw⟩

theorem writeResonator_inv {n : Nat} {u u' : Resonator} (h : ResonatorInv n u) {w : Word} {f : Nat}
    (hw : writeResonator u w f = some u') : ResonatorInv n u' := by
  obtain ⟨hm, hp, hwg⟩ := h
  unfold writeResonator at hw
  split at hw
  all_goals try (cases hw; exact ⟨hm, hp, hwg⟩)
  -- `model`, `npartials`, and the field ids without a register are left
  · cases hw
    exact ⟨legalModel_le w, hp, hwg⟩
  · cases hw
    exact ⟨hm, legalNPartials_le w, hwg⟩
  · cases hw

/-! ### The units of a voice -/

theorem VoiceInv.res {n : Nat} {v : Voice} (h : VoiceInv n v) (sd : Side) :
    ResonatorInv n (v.res sd) := by
  cases sd
  · exact h.1
  · exact h.2

theorem VoiceInv.setRes {n : Nat} {v : Voice} (h : VoiceInv n v) (sd : Side) {r : Resonator}
    (hr : ResonatorInv n r) : VoiceInv n (v.setRes sd r) := by
  cases sd
  · exact ⟨hr, h.2⟩
  · exact ⟨h.1, hr⟩

theorem VoiceInv.setWg {n : Nat} {v : Voice} (h : VoiceInv n v) (sd : Side) {w : Waveguide}
    (hw : WaveguideInv n w) : VoiceInv n (v.setWg sd w) :=
  have ⟨hm, hp, _⟩ := h.res sd
  h.setRes sd ⟨hm, hp, hw⟩

theorem VoiceInv.setPost {n : Nat} {v : Voice} (h : VoiceInv n v) (sd : Side)
    (f : BiquadFilter V4) : VoiceInv n (v.setPost sd f) :=
  h.setRes sd (h.res sd)

theorem VoiceInv.setPart {n : Nat} {v : Voice} (h : VoiceInv n v) (sd : Side) (i : Nat)
    (p : Partial) : VoiceInv n (v.setPart sd i p) :=
  h.setRes sd (h.res sd)

theorem writeVoice_inv {n : Nat} {v v' : Voice} (h : VoiceInv n v) {w : Word} {f : Nat}
    (hw : writeVoice v w f = some v') : VoiceInv n v' := by
  unfold writeVoice at hw
  split at hw
  all_goals try (cases hw; exact h)
  -- the field ids without a register are left
  cases hw

/-- `ST.WR` keeps the invariant of the voice, whichever register it writes (R280). -/
theorem writeUnit_inv {n : Nat} (hn : 2 ≤ n ∧ n ≤ 2147483648) {sel : UnitSel} {k : Nat}
    {v v' : Voice} (h : VoiceInv n v) {w : Word} {f : Nat}
    (hw : writeUnit n sel k v w f = some v') : VoiceInv n v' := by
  unfold writeUnit at hw
  cases sel with
  | voice => exact writeVoice_inv h hw
  | mallet | malletFlt | noise | noiseFlt | noiseEnv =>
    obtain ⟨u, -, rfl⟩ := Option.map_eq_some_iff.1 hw
    exact h
  | res sd =>
    obtain ⟨r, hr, rfl⟩ := Option.map_eq_some_iff.1 hw
    exact h.setRes sd (writeResonator_inv (h.res sd) hr)
  | post sd =>
    obtain ⟨f, -, rfl⟩ := Option.map_eq_some_iff.1 hw
    exact h.setPost sd f
  | wg sd =>
    obtain ⟨u, hu, rfl⟩ := Option.map_eq_some_iff.1 hw
    obtain ⟨-, -, hwg⟩ := h.res sd
    exact h.setWg sd (writeWaveguide_inv hn hwg hu)
  | part sd =>
    obtain ⟨p, -, rfl⟩ := Option.map_eq_some_iff.1 hw
    exact h.setPart sd k p

/-! ### The voice procedures -/

section VoiceProcedures

variable {p : Params} (hp : ParamsLegal p)
include hp

theorem resProcess_inv {u : Resonator} (h : ResonatorInv p.wgLen u) (x : V4) :
    ResonatorInv p.wgLen (resProcess p u x).1 := by
  unfold resProcess
  split
  · exact resStepVariant_inv hp h x
  · exact h

theorem resFrame_inv {r : Resonator} (h : ResonatorInv p.wgLen r) (x : V4) :
    ResonatorInv p.wgLen (resFrame p r x) := by
  unfold resFrame
  split
  · exact resProcess_inv hp h x
  · exact h

/-- One frame keeps the invariant of a voice (R262). -/
theorem FrameStep.inv {g : Globals} {v v' : Voice} (hs : FrameStep p g v v')
    (h : VoiceInv p.wgLen v) : VoiceInv p.wgLen v' := by
  obtain ⟨rng, f, rest, hf, rfl⟩ := hs
  obtain ⟨n, ns, -, rfl⟩ := voiceFrame_some hf
  exact ⟨resFrame_inv hp h.1 _, resFrame_inv hp h.2 _⟩

theorem frames_inv {g : Globals} {v v' : Voice}
    (hs : Relation.ReflTransGen (FrameStep p g) v v') (h : VoiceInv p.wgLen v) :
    VoiceInv p.wgLen v' := by
  induction hs with
  | refl => exact h
  | tail _ hlast ih => exact hlast.inv hp ih

theorem voiPushTable_inv {r : Resonator} (h : ResonatorInv p.wgLen r) (v : Voice)
    (table : List Fx) : ResonatorInv p.wgLen (voiPushTable p v r table) := by
  unfold voiPushTable
  split
  · exact resUpdate_inv hp h _ _ _ _
  · exact h

theorem voiUpdateResonators_inv {v : Voice} (h : VoiceInv p.wgLen v) (models : Memory) :
    VoiceInv p.wgLen (voiUpdateResonators p models v) :=
  ⟨voiPushTable_inv hp h.1 _ _, voiPushTable_inv hp h.2 _ _⟩

theorem voiTrigger_inv {v : Voice} (h : VoiceInv p.wgLen v) (models : Memory) (srate : Fx)
    (note velocity : Int) (malletFreq : Fx) :
    VoiceInv p.wgLen (voiTrigger p models v srate note velocity malletFreq) :=
  voiUpdateResonators_inv hp (v := voiStart v srate note velocity malletFreq)
    ⟨voiStartResonator_inv hp h.1, voiStartResonator_inv hp h.2⟩ models

theorem voiRelease_inv {v : Voice} (h : VoiceInv p.wgLen v) (models : Memory) :
    VoiceInv p.wgLen (voiRelease p models v) :=
  voiUpdateResonators_inv hp
    (v := { v with isRelease := true, isPressed := false, noise := nseRelease v.noise }) h models

end VoiceProcedures

/-! ### The machine -/

/-- A property that `R` carries over holds of every element of a list that `R` moves in place. -/
theorem forall₂_keeps {α : Type} {R : α → α → Prop} {P : α → Prop}
    (hR : ∀ a b, R a b → P a → P b) {as bs : List α} (h : List.Forall₂ R as bs)
    (ha : ∀ a ∈ as, P a) : ∀ b ∈ bs, P b := by
  induction h with
  | nil => exact ha
  | cons hab _ ih =>
    obtain ⟨hhead, htail⟩ := List.forall_mem_cons.1 ha
    exact List.forall_mem_cons.2 ⟨hR _ _ hab hhead, ih htail⟩

section MachineUpdates

variable {s : State} (hs : StateInv s)
include hs

theorem StateInv.voiceAt (i : Nat) : VoiceInv s.params.wgLen (voiceAt s.voices i) := by
  obtain ⟨hp, -, -, -, -, hv⟩ := hs
  by_cases hi : i < s.voices.length
  · exact hv _ (voiceAt_mem s.voices i hi)
  · rw [Machine.voiceAt, List.getD_eq_default _ _ (Nat.le_of_not_lt hi)]
    exact Voice.reset_inv hp

/-- New voices, as many as before, each with its invariant, and any words left on `RNGIN`. -/
theorem withVoices_inv {vs : List Voice} (rng : List Word) (hlen : vs.length = s.voices.length)
    (hvs : ∀ v ∈ vs, VoiceInv s.params.wgLen v) :
    StateInv { s with voices := vs, rngIn := rng } := by
  obtain ⟨hp, h1, h256, hwf, hbelow, -⟩ := hs
  exact ⟨hp, h1.trans_eq hlen.symm, hlen.trans_le h256, hwf, hbelow, hvs⟩

theorem mapVoices_inv {f : Voice → Voice}
    (hf : ∀ v, VoiceInv s.params.wgLen v → VoiceInv s.params.wgLen (f v)) :
    StateInv { s with voices := s.voices.map f } := by
  refine withVoices_inv hs s.rngIn (List.length_map f) fun v hv => ?_
  obtain ⟨-, -, -, -, -, hall⟩ := hs
  obtain ⟨u, hu, rfl⟩ := List.mem_map.1 hv
  exact hf u (hall u hu)

theorem setVoice_inv (i : Nat) {v : Voice} (rng : List Word) (hv : VoiceInv s.params.wgLen v) :
    StateInv { setVoice i v s with rngIn := rng } := by
  refine withVoices_inv hs rng List.length_set fun u hu => ?_
  obtain ⟨-, -, -, -, -, hall⟩ := hs
  rcases List.mem_or_eq_of_mem_set hu with hmem | rfl
  · exact hall u hmem
  · exact hv

theorem resetUnits_inv : StateInv (resetUnits s) := by
  obtain ⟨hp, h1, h256, -, -, -⟩ := hs
  refine ⟨hp, (resetUnits_nv s).symm ▸ h1, (resetUnits_nv s).symm ▸ h256, Memory.wf_nil,
    Memory.below_nil _, fun v hv => ?_⟩
  obtain rfl := List.eq_of_mem_replicate hv
  exact Voice.reset_inv hp

theorem mdlWrite_inv (sd : Side) {mi ei : Nat} (x : Fx) (hm : mi ≤ 63) (he : ei ≤ 63) :
    StateInv { s with models := mdlWrite s.models sd mi ei x } := by
  obtain ⟨hp, h1, h256, hwf, hbelow, hv⟩ := hs
  exact ⟨hp, h1, h256, mdlWrite_wf _ _ _ _ _ hwf, mdlWrite_below _ _ _ _ _ hm he hbelow, hv⟩

theorem render_inv {n m : Nat} {vs : List Voice} {ws rest : List Word}
    (hr : renderFrames s.params s.globals n s.voices s.rngIn = some (vs, ws, rest)) :
    StateInv { s with voices := vs.map (advanceFrames m), rngIn := rest } := by
  have ⟨hp, _, _, _, _, hall⟩ := hs
  have hmoved := (renderFrames_some hr).1
  refine withVoices_inv hs rest ((List.length_map _).trans hmoved.length_eq.symm) fun v hv => ?_
  obtain ⟨u, hu, rfl⟩ := List.mem_map.1 hv
  exact forall₂_keeps (fun _ _ h => frames_inv hp h) hmoved hall u hu

end MachineUpdates
/-! ### Commands -/

/-- A result that goes on does so with the invariant. -/
abbrev KeepsInv (r : Result) : Prop := ∀ s', r = .next s' → StateInv s'

section Commands

variable {s : State} (hs : StateInv s)
include hs

/-- The effects of the commands that address no unit keep the invariant. -/
theorem WholeEffect.inv {i : Instr} {s' : State} (h : WholeEffect i s s') : StateInv s' := by
  have hp : ParamsLegal s.params := hs.1
  cases h with
  | answer e ws => exact hs
  | reset => exact resetUnits_inv hs
  | flush => exact mapVoices_inv hs fun v hv => voiClear_inv hp hv
  | globals => exact hs
  | models u m e x sd mi ei _ hm he => exact mdlWrite_inv hs sd x (mdlIndex_le hm) (mdlIndex_le he)
  | noteOn note velocity =>
    exact setVoice_inv hs _ s.rngIn (voiTrigger_inv hp (hs.voiceAt _) _ _ _ _ _)
  | noteOff note =>
    refine mapVoices_inv hs fun v hv => ?_
    split
    · exact voiRelease_inv hp hv s.models
    · exact hv
  | render frameCount n vs ws rest _ _ hr => exact render_inv hs hr

theorem atVoice_keepsInv {α : Type} {sel : BitVec 8 → Option α} {t : Target}
    {f : α → Voice → Voice × List Word}
    (hf : ∀ a v, VoiceInv s.params.wgLen v → VoiceInv s.params.wgLen (f a v).1) :
    KeepsInv (atVoice sel t s f) := by
  intro s' h
  rcases atVoice_cases sel t s f with ⟨e, -, he⟩ | ⟨a, -, -, -, ha⟩
  · obtain rfl := Host.Outcome.next.inj (h.symm.trans he)
    exact hs
  · obtain rfl := Host.Outcome.next.inj (h.symm.trans ha)
    exact setVoice_inv hs _ s.rngIn (hf a _ (hs.voiceAt _))

theorem atEnv_keepsInv {t : Target} {f : Envelope → Envelope × List Word} :
    KeepsInv (atEnv t s f) :=
  atVoice_keepsInv hs fun _ _ hv => hv

theorem atFilter_keepsInv {t : Target} {one : BiquadFilter Fx → BiquadFilter Fx × List Word}
    {four : BiquadFilter V4 → BiquadFilter V4 × List Word} :
    KeepsInv (atFilter t s one four) := by
  refine atVoice_keepsInv hs fun sel v hv => ?_
  cases sel with
  | mallet => exact hv
  | noise => exact hv
  | post sd => exact hv.setPost sd _

theorem atPartial_keepsInv {t : Target} {f : Partial → Partial × List Word} :
    KeepsInv (atPartial t s f) :=
  atVoice_keepsInv hs fun sd _ hv => hv.setPart sd _ _

theorem atWaveguide_keepsInv {t : Target} {f : Waveguide → Waveguide × List Word}
    (hf : ∀ u, WaveguideInv s.params.wgLen u → WaveguideInv s.params.wgLen (f u).1) :
    KeepsInv (atWaveguide t s f) :=
  atVoice_keepsInv hs fun sd _ hv =>
    have ⟨_, _, hw⟩ := hv.res sd
    hv.setWg sd (hf _ hw)

theorem atResonator_keepsInv {t : Target} {f : Resonator → Resonator × List Word}
    (hf : ∀ u, ResonatorInv s.params.wgLen u → ResonatorInv s.params.wgLen (f u).1) :
    KeepsInv (atResonator t s f) :=
  atVoice_keepsInv hs fun sd _ hv => hv.setRes sd (hf _ (hv.res sd))

theorem execStRd_keepsInv (t : Target) (field : Word) : KeepsInv (execStRd t field s) := by
  intro s' h
  unfold execStRd at h
  split at h
  · cases h; exact hs
  · split at h
    · cases h; exact hs
    · cases h; exact hs

theorem execStWr_keepsInv (t : Target) (field value : Word) :
    KeepsInv (execStWr t field value s) := by
  intro s' h
  have hp : ParamsLegal s.params := hs.1
  unfold execStWr at h
  split at h
  · cases h; exact hs
  · split at h
    · cases h; exact hs
    · next v hv =>
      cases h
      obtain ⟨f, -, hf⟩ := Option.bind_eq_some_iff.1 hv
      exact setVoice_inv hs _ s.rngIn (writeUnit_inv hp (hs.voiceAt _) hf)

theorem execNseProc_keepsInv (t : Target) : KeepsInv (execNseProc t s) := by
  intro s' h
  unfold execNseProc at h
  split at h
  · cases h; exact hs
  · split at h
    · cases h
    · next n x rest _ =>
      cases h
      exact setVoice_inv hs _ rest (hs.voiceAt _)

/-- Every command on a unit keeps the invariant, by what it does to that unit's part of it. -/
theorem exec_unit_keepsInv (i : Instr) (hu : unitTarget i ≠ none) : KeepsInv (exec i s) := by
  have hp : ParamsLegal s.params := hs.1
  cases i
  all_goals simp only [exec]
  case stRd t field => exact execStRd_keepsInv hs t field
  case stWr t field value => exact execStWr_keepsInv hs t field value
  case nseProc t => exact execNseProc_keepsInv hs t
  case envInit | envAtk | envDec | envSus | envRel | envProc | envRst => exact atEnv_keepsInv hs
  case fltLp | fltBp | fltHp | fltDf1 | fltClr | fltRst => exact atFilter_keepsInv hs
  case mltTrig | mltProc | mltClr | nseInit | nseAtk | nseRel | nseClr | voiPitch =>
    exact atVoice_keepsInv hs fun _ _ hv => hv
  case prtUpd | prtProc | prtClr => exact atPartial_keepsInv hs
  case wgdUpd => exact atWaveguide_keepsInv hs fun _ hu => wgdUpdate_inv hp hu _ _ _
  case wgdProc => exact atWaveguide_keepsInv hs fun _ hu => wgdProcess_inv hp hu _
  case wgdClr => exact atWaveguide_keepsInv hs fun _ hu => wgdClear_inv hp hu
  case resSetp =>
    exact atResonator_keepsInv hs fun _ hu =>
      resSetParams_inv hu (legalModel_le _) (legalNPartials_le _)
  case resAct => exact atResonator_keepsInv hs fun _ hu => hu
  case resUpd => exact atResonator_keepsInv hs fun _ hu => resUpdate_inv hp hu _ _ _ _
  case resProc => exact atResonator_keepsInv hs fun _ hu => resProcess_inv hp hu _
  case resClr => exact atResonator_keepsInv hs fun _ hu => resClear_inv hp hu
  case voiTrig => exact atVoice_keepsInv hs fun _ _ hv => voiTrigger_inv hp hv _ _ _ _ _
  case voiRel => exact atVoice_keepsInv hs fun _ _ hv => voiRelease_inv hp hv _
  case voiUpd => exact atVoice_keepsInv hs fun _ _ hv => voiUpdateResonators_inv hp hv _
  case voiClr => exact atVoice_keepsInv hs fun _ _ hv => voiClear_inv hp hv
  all_goals exact absurd rfl hu

theorem exec_keepsInv (i : Instr) : KeepsInv (exec i s) := by
  by_cases hu : unitTarget i = none
  · exact fun s' h => (exec_whole_ends i s hu s' h).inv hs
  · exact exec_unit_keepsInv hs i hu

end Commands

/-- Settles O12: a step is a status word or a command on the state without its words, and every
command keeps the invariant. -/
theorem everyStepKeepsStateInv : Obligations.EveryStepKeepsStateInv := by
  intro s s' hs h
  obtain ⟨rest, ⟨e, rfl⟩ | ⟨i, hi⟩⟩ := step_next h
  · exact hs
  · exact exec_keepsInv (s := s.withCmdIn rest) hs i s' hi

end Sys2Proof.Machine
end

section
/-! SUPPORT. The waits of spec/20_memory.md R69: when the decoder waits for words, when a command
waits on `RNGIN`, and what a step is for each answer of the decoder. -/

namespace Sys2Proof.Machine

/-! ### What the decoder finds, and the step it makes -/

theorem decode_nil : decode [] = .wait := rfl

/-- A header whose opcode is not in the table never waits (R87). -/
theorem decode_unknown {h : Word} (rest : List Word)
    (hrow : opcodeRow (headerOpc h).toNat = none) : decode (h :: rest) = .reject .opcode rest := by
  simp only [decode, hrow]

/-- A known opcode waits exactly for its operand words, whatever the later checks say (log entry
9). -/
theorem decode_known_wait_iff {h : Word} (rest : List Word) {kind : RowKind} {n : Nat}
    (hrow : opcodeRow (headerOpc h).toNat = some (kind, n)) :
    decode (h :: rest) = .wait ↔ rest.length < n := by
  simp only [decode, hrow]
  split
  · next hlen => exact iff_of_true rfl hlen
  · next hlen =>
    refine iff_of_false ?_ hlen
    cases decodeCommand h (rest.take n) <;> simp

/-- The decoder waits exactly when the words of the next command have not all arrived. -/
theorem decode_wait_iff (ws : List Word) :
    decode ws = .wait ↔ ws = [] ∨ ∃ h rest kind n, ws = h :: rest ∧
      opcodeRow (headerOpc h).toNat = some (kind, n) ∧ rest.length < n := by
  cases ws with
  | nil => exact iff_of_true decode_nil (.inl rfl)
  | cons h rest =>
    cases hrow : opcodeRow (headerOpc h).toNat with
    | none => simp [decode_unknown rest hrow, hrow]
    | some row =>
      obtain ⟨kind, n⟩ := row
      simp [decode_known_wait_iff rest hrow, hrow]

theorem step_of_wait {s : State} (h : decode s.cmdIn = .wait) :
    step s = .fault .commandWait := by
  simp only [step, h]

theorem step_of_reject {s : State} {e : Status} {rest : List Word}
    (h : decode s.cmdIn = .reject e rest) :
    step s = .next (respond e [] (s.withCmdIn rest)) := by
  simp only [step, h, raiseError_eq]

theorem step_of_command {s : State} {i : Instr} {rest : List Word}
    (h : decode s.cmdIn = .command i rest) : step s = exec i (s.withCmdIn rest) := by
  simp only [step, h]

/-- Settles O6: the two answers of the decoder that are no wait. -/
theorem stepRunsDecodedCommand : Obligations.StepRunsDecodedCommand :=
  fun _ _ => ⟨fun _ => step_of_command, fun _ => step_of_reject⟩

/-! ### The commands that wait -/

/-- A command `i` goes on, or it draws from `RNGIN` and waits there (R69, R70). -/
def GoesOnOrDraws (i : Instr) (r : Result) : Prop :=
  (∃ s', r = .next s') ∨
    r = .fault .rngWait ∧ ((∃ t, i = .nseProc t) ∨ ∃ n, i = .render n)

theorem raiseError_goesOn (i : Instr) (e : Status) (s : State) :
    GoesOnOrDraws i (raiseError e s) := .inl ⟨_, rfl⟩

theorem complete_goesOn (i : Instr) (ws : List Word) (s : State) :
    GoesOnOrDraws i (complete ws s) := .inl ⟨_, rfl⟩

theorem execCfgWr_goesOn (i : Instr) (k : BitVec 8) (x : Word) (s : State) :
    GoesOnOrDraws i (execCfgWr k x s) := by
  unfold execCfgWr
  split
  · exact raiseError_goesOn ..
  · exact complete_goesOn ..

theorem execCfgRd_goesOn (i : Instr) (k : BitVec 8) (s : State) :
    GoesOnOrDraws i (execCfgRd k s) := by
  unfold execCfgRd
  split
  · exact raiseError_goesOn ..
  · exact complete_goesOn ..

theorem execMdlWr_goesOn (i : Instr) (u : BitVec 8) (m e x : Word) (s : State) :
    GoesOnOrDraws i (execMdlWr u m e x s) := by
  unfold execMdlWr
  split
  · exact raiseError_goesOn ..
  · split
    · exact complete_goesOn ..
    · exact raiseError_goesOn ..

theorem execMdlRd_goesOn (i : Instr) (u : BitVec 8) (m e : Word) (s : State) :
    GoesOnOrDraws i (execMdlRd u m e s) := by
  unfold execMdlRd
  split
  · exact raiseError_goesOn ..
  · split
    · exact complete_goesOn ..
    · exact raiseError_goesOn ..

theorem execRender_goesOnOrDraws (frameCount : Word) (s : State) :
    GoesOnOrDraws (.render frameCount) (execRender frameCount s) := by
  unfold execRender
  dsimp only
  split
  · exact .inr ⟨rfl, .inr ⟨frameCount, rfl⟩⟩
  · exact complete_goesOn ..

/-- Of the commands that address no unit, `RENDER` alone can wait. -/
theorem exec_whole_goesOnOrDraws (i : Instr) (s : State) (hu : unitTarget i = none) :
    GoesOnOrDraws i (exec i s) := by
  cases i with
  | nop | sysReset | sysSuspend | sysResume => exact complete_goesOn ..
  | poolNext | noteOn | noteOff => exact complete_goesOn ..
  | cfgWr k x => exact execCfgWr_goesOn _ k x s
  | cfgRd k => exact execCfgRd_goesOn _ k s
  | mdlWr u m e x => exact execMdlWr_goesOn _ u m e x s
  | mdlRd u m e => exact execMdlRd_goesOn _ u m e s
  | render frameCount => exact execRender_goesOnOrDraws frameCount s
  | _ => cases hu

/-- Of all commands, `NSE.PROC` and `RENDER` alone can wait, and none is refused. -/
theorem exec_goesOnOrDraws (i : Instr) (s : State) : GoesOnOrDraws i (exec i s) := by
  cases hu : unitTarget i with
  | none => exact exec_whole_goesOnOrDraws i s hu
  | some u =>
    obtain ⟨t, us⟩ := u
    rcases exec_unit_ends i s t us hu with
      ⟨e, -, he⟩ | ⟨hw, hi⟩ | ⟨v, ws, rng, drawn, -, hr, -⟩
    · exact .inl ⟨_, he⟩
    · exact .inr ⟨hw, .inl ⟨t, hi⟩⟩
    · exact .inl ⟨_, hr⟩

/-- Settles O8: a command that does not go on draws, and the fault is `rngWait`. -/
theorem onlyDrawsWait : Obligations.OnlyDrawsWait := by
  intro i s
  rcases exec_goesOnOrDraws i s with ⟨s', hs⟩ | ⟨hw, hi⟩
  · exact ⟨fun r hr => (nomatch hs.symm.trans hr), fun f hf => (nomatch hs.symm.trans hf)⟩
  · exact ⟨fun r hr => (nomatch hw.symm.trans hr),
      fun f hf => ⟨Host.Outcome.fault.inj (hf.symm.trans hw), hi⟩⟩

/-! ### The step that waits on the command port -/

/-- A step answers `commandWait` for no other reason than a wait of the decoder: a command that
waits does so on `RNGIN`. -/
theorem step_commandWait_iff (s : State) :
    step s = .fault .commandWait ↔ decode s.cmdIn = .wait := by
  refine ⟨fun h => ?_, step_of_wait⟩
  cases hd : decode s.cmdIn with
  | wait => rfl
  | reject e rest => cases (step_of_reject hd).symm.trans h
  | command i rest =>
    have hexec : exec i (s.withCmdIn rest) = .fault .commandWait :=
      (step_of_command hd).symm.trans h
    cases ((onlyDrawsWait i _).2 _ hexec).1

/-- Settles O7: the step waits when the decoder does, and the decoder when words are missing. -/
theorem stepWaitsForMissingWords : Obligations.StepWaitsForMissingWords :=
  fun s => (step_commandWait_iff s).trans (decode_wait_iff s.cmdIn)

end Sys2Proof.Machine
end

section
/-! SUPPORT. The decoder and the encoder of spec/30_encoding.md against each other: what the decoder
does with the words of a known opcode, and that each row of the table R84 builds the command whose
encoding its words are. -/

namespace Sys2Proof

/-! ### What the decoder does with a known opcode (R87, R297) -/

/-- The checks 2 and 3 of R297 and the command of the row: a known opcode is accepted in no other
way. -/
theorem decodeCommand_ok_iff {h : Word} {ops : List Word} {kind : RowKind} {n : Nat} {i : Instr}
    (hrow : opcodeRow (headerOpc h).toNat = some (kind, n)) :
    decodeCommand h ops = .ok i ↔
      headerRsv h = 0#96 ∧ reservedFieldSet kind (headerTarget h) = false ∧
        buildInstr (headerOpc h).toNat (headerTarget h) ops = some i := by
  refine ⟨fun hok => ?_, fun ⟨hr, hf, hb⟩ => decodeCommand_ok h ops kind n i hrow hr hf hb⟩
  simp only [decodeCommand, hrow] at hok
  split at hok
  · cases hok
  · next hr =>
    split at hok
    · cases hok
    · next hf =>
      split at hok
      · cases hok
      · next hb =>
        cases hok
        exact ⟨not_not.1 hr, Bool.eq_false_iff.2 hf, hb⟩

/-- A header of a known opcode that fails check 2 or 3 of R297 is `E_RESERVED`, whatever its operand
words are. -/
theorem decodeCommand_reserved {h : Word} (ops : List Word) {kind : RowKind} {n : Nat}
    (hrow : opcodeRow (headerOpc h).toNat = some (kind, n))
    (hbad : headerRsv h ≠ 0#96 ∨ reservedFieldSet kind (headerTarget h) = true) :
    decodeCommand h ops = .error .reserved := by
  simp only [decodeCommand, hrow]
  by_cases hr : headerRsv h = 0#96
  · rw [if_neg (not_not.2 hr), if_pos (hbad.resolve_left (not_not.2 hr))]
  · rw [if_pos hr]

/-- When its operand words are there, a known opcode takes exactly them (R87): the answer is that of
the checks on the header, and the words after them are left. -/
theorem decode_known {h : Word} {rest : List Word} {kind : RowKind} {n : Nat}
    (hrow : opcodeRow (headerOpc h).toNat = some (kind, n)) (hlen : n ≤ rest.length) :
    decode (h :: rest) =
      match decodeCommand h (rest.take n) with
      | .error e => .reject e (rest.drop n)
      | .ok i => .command i (rest.drop n) := by
  have hcons := decode_cons h (rest.take n) (rest.drop n) kind n hrow (List.length_take_of_le hlen)
  rw [List.take_append_drop] at hcons
  exact hcons

/-- What the decoder accepts is a header of a known opcode with its operand words, which pass the
checks. -/
theorem decode_command_inv {ws rest : List Word} {i : Instr} (hd : decode ws = .command i rest) :
    ∃ h ops kind, ws = h :: (ops ++ rest) ∧
      opcodeRow (headerOpc h).toNat = some (kind, ops.length) ∧ decodeCommand h ops = .ok i := by
  cases ws with
  | nil => cases hd
  | cons h left =>
    cases hrow : opcodeRow (headerOpc h).toNat with
    | none => cases (Machine.decode_unknown left hrow).symm.trans hd
    | some row =>
      obtain ⟨kind, n⟩ := row
      by_cases hlen : left.length < n
      · cases ((Machine.decode_known_wait_iff left hrow).2 hlen).symm.trans hd
      · have hle : n ≤ left.length := Nat.not_lt.1 hlen
        rw [decode_known hrow hle] at hd
        cases hc : decodeCommand h (left.take n) with
        | error e => simp [hc] at hd
        | ok j =>
          simp only [hc, Fetched.command.injEq] at hd
          obtain ⟨rfl, rfl⟩ := hd
          exact ⟨h, left.take n, kind, by rw [List.take_append_drop],
            by rw [hrow, List.length_take_of_le hle], hc⟩

/-! ### From the command to its words and back (R84, R88) -/

/-- A header and the operand words of its row decode to the command of the row, if the fields that
the row reserves are 0. -/
theorem decode_unitHeader (kind : RowKind) {opc : BitVec 8} (t : Target) {ops : List Word}
    {i : Instr} (rest : List Word) (hrow : opcodeRow opc.toNat = some (kind, ops.length))
    (hf : reservedFieldSet kind t = false) (hb : buildInstr opc.toNat t ops = some i) :
    decode (unitHeader opc t :: ops ++ rest) = .command i rest := by
  have hrow' : opcodeRow (headerOpc (unitHeader opc t)).toNat = some (kind, ops.length) := by
    rw [headerOpc_unitHeader, hrow]
  have hok : decodeCommand (unitHeader opc t) ops = .ok i := by
    refine (decodeCommand_ok_iff hrow').2 ⟨headerRsv_unitHeader opc t, ?_, ?_⟩
    · rw [headerTarget_unitHeader, hf]
    · rw [headerOpc_unitHeader, headerTarget_unitHeader, hb]
  rw [List.cons_append, decode_cons _ ops rest kind _ hrow' rfl, hok]

/-- Settles O1: the rows of R84 by what they require of the header fields; well-formedness gives the
length of the model table of `RES.UPD`, the one operand list that a command holds at any length. -/
theorem decodeEncodeAgree : Obligations.DecodeEncodeAgree := by
  intro nv i rest hwf
  cases i
  case nop | sysReset | sysSuspend | sysResume | poolNext | noteOn | noteOff | render =>
    exact decode_unitHeader .plain ⟨0, 0, 0⟩ rest rfl rfl rfl
  case cfgWr k _ | cfgRd k => exact decode_unitHeader .cfg ⟨0, 0, k⟩ rest rfl rfl rfl
  case mdlWr u _ _ _ | mdlRd u _ _ => exact decode_unitHeader .side ⟨0, u, 0⟩ rest rfl rfl rfl
  case resUpd t freq vel isRelease model =>
    have hlen : model.length = 64 := by
      simp only [Instr.wf, Bool.and_eq_true, beq_iff_eq] at hwf
      exact hwf.2
    have hrow : opcodeRow 0x72 = some (.unit, (freq :: vel :: isRelease :: model).length) := by
      simp only [List.length_cons, hlen]
      rfl
    exact decode_unitHeader .unit t rest hrow rfl rfl
  all_goals exact decode_unitHeader .unit _ rest rfl rfl rfl

/-! ### From the words to the command and back (R80, R84, R86) -/

/-- The target with the fields put to 0 that the row requires to be 0 (R84). -/
def clearReserved (kind : RowKind) (t : Target) : Target :=
  match kind with
  | .plain => ⟨0, 0, 0⟩
  | .cfg => { t with v := 0, u := 0 }
  | .side => { t with v := 0, k := 0 }
  | .unit => t

/-- Check 3 of R297 passes exactly the targets that clearing the reserved fields does not change. -/
theorem reservedFieldSet_eq_false_iff (kind : RowKind) (t : Target) :
    reservedFieldSet kind t = false ↔ clearReserved kind t = t := by
  obtain ⟨v, u, k⟩ := t
  cases kind <;>
    simp [reservedFieldSet, clearReserved, @eq_comm _ 0#8, and_assoc]

/-- The first `m` operand words one by one, as `buildInstr` reads them, and then the rest. -/
theorem operands_append_drop {ops : List Word} {m : Nat} (h : m ≤ ops.length) :
    (List.range m).map (fun j => ops.getD j 0#128) ++ ops.drop m = ops := by
  have hfirst : (List.range m).map (fun j => ops.getD j 0#128) = ops.take m := by
    refine List.ext_getElem (by simp [h]) fun j hj _ => ?_
    have hjm : j < m := by simpa using hj
    simp [Nat.lt_of_lt_of_le hjm h]
  rw [hfirst, List.take_append_drop]

theorem operands_eq {ops : List Word} {n : Nat} (h : ops.length = n) :
    (List.range n).map (fun j => ops.getD j 0#128) = ops := by
  have happ := operands_append_drop h.ge
  rwa [← h, List.drop_length, List.append_nil, h] at happ

/-- Every row of the table builds a command, and the encoding of that command is the row's header
and all the operand words: no word is dropped and none is added. -/
theorem buildInstr_row {opc n : Nat} {kind : RowKind} (t : Target) {ops : List Word}
    (hrow : opcodeRow opc = some (kind, n)) (hlen : ops.length = n) :
    ∃ i, buildInstr opc t ops = some i ∧
      encode i = unitHeader (BitVec.ofNat 8 opc) (clearReserved kind t) :: ops := by
  unfold opcodeRow at hrow
  split at hrow
  all_goals cases hrow
  -- `RES.UPD`, whose last operand is a table
  case h_40 => exact ⟨_, rfl, congrArg (List.cons _) (operands_append_drop (m := 3) (by omega))⟩
  all_goals exact ⟨_, rfl, congrArg (List.cons _) (operands_eq hlen)⟩

/-- Settles O2: what the decoder accepts is a row's header, clear in every reserved field, with the
row's operand words. -/
theorem encodeDecodeAgree : Obligations.EncodeDecodeAgree := by
  intro ws i rest hd
  obtain ⟨h, ops, kind, rfl, hrow, hok⟩ := decode_command_inv hd
  obtain ⟨hr, hf, hb⟩ := (decodeCommand_ok_iff hrow).1 hok
  obtain ⟨j, hj, henc⟩ := buildInstr_row (headerTarget h) hrow rfl
  obtain rfl : j = i := Option.some.inj (hj.symm.trans hb)
  have hhead : unitHeader (BitVec.ofNat 8 (headerOpc h).toNat) (headerTarget h) = h := by
    rw [BitVec.ofNat_toNat, BitVec.setWidth_eq]
    exact (header_fields h hr).symm
  rw [henc, (reservedFieldSet_eq_false_iff _ _).1 hf, hhead, List.cons_append]

/-! ### The framing of the port (R87) -/

/-- Settles O3: the framing does not look at the checks, and no known opcode is without a
command. -/
theorem portFraming : Obligations.PortFraming := by
  intro h rest
  refine ⟨Machine.decode_unknown rest, fun kind n hrow =>
    ⟨(Machine.decode_known_wait_iff rest hrow).2, fun hlen hbad => ?_, fun hlen hr hf => ?_⟩⟩
  · rw [decode_known hrow hlen, decodeCommand_reserved _ hrow hbad]
  · obtain ⟨i, hb, -⟩ := buildInstr_row (headerTarget h) hrow (List.length_take_of_le hlen)
    refine ⟨i, ?_⟩
    rw [decode_known hrow hlen, (decodeCommand_ok_iff hrow).2 ⟨hr, hf, hb⟩]

/-! ### The table and the printed words (R84, R86) -/

/-- An opcode outside the 51 of the table has no row (R86). -/
theorem opcodeRow_unused {n : Nat}
    (h : (0x0A ≤ n ∧ n ≤ 0x0F) ∨ (0x17 ≤ n ∧ n ≤ 0x1F) ∨ (0x26 ≤ n ∧ n ≤ 0x2F) ∨
      (0x33 ≤ n ∧ n ≤ 0x3F) ∨ (0x45 ≤ n ∧ n ≤ 0x4F) ∨ (0x53 ≤ n ∧ n ≤ 0x5F) ∨
      (0x63 ≤ n ∧ n ≤ 0x6F) ∨ (0x75 ≤ n ∧ n ≤ 0x7F) ∨ (0x85 ≤ n ∧ n ≤ 0x8F) ∨ 0x94 ≤ n) :
    opcodeRow n = none := by
  unfold opcodeRow
  split
  case h_52 => rfl
  all_goals omega

/-- Settles O4: the rows are read off the table, and the ranges between them meet no row. -/
theorem opcodeTableRows : Obligations.OpcodeTableRows :=
  ⟨by decide, fun _ _ => opcodeRow_unused⟩

/-- Words that spell a well-formed command decode to it. -/
theorem decode_of_eq_encode {nv : Nat} {i : Instr} {ws : List Word} (hwf : i.wf nv = true)
    (hws : ws = encode i) : decode ws = .command i [] := by
  rw [hws]
  simpa using decodeEncodeAgree nv i [] hwf

/-- Settles O5: each printed word sequence is the encoding of a command that is well formed on eight
voices, so O1 gives the command. -/
theorem handWrittenWordsDecode : Obligations.HandWrittenWordsDecode := by
  refine ⟨?_, ?_, ?_, ?_, ?_, ?_, ?_, ?_, ?_, ?_⟩
  all_goals exact decode_of_eq_encode (nv := 8) (by decide) (by decide)

end Sys2Proof
end

section
/-! SUPPORT. The response of a command (spec/30_encoding.md R81): how each command that goes on
answers, and how many result words it emits. -/

namespace Sys2Proof.Machine

/-! ### Status words (R295) -/

theorem statusWord_toNat (e : Status) : (statusWord e).toNat = statusCode e := by
  cases e <;> rfl

theorem statusCode_le (e : Status) : statusCode e ≤ 6 := by
  cases e <;> decide

theorem statusWord_eq_zero_iff (e : Status) : statusWord e = 0#128 ↔ e = .ok := by
  cases e <;> decide

/-! ### Answers -/

/-- A result that goes on has answered the command `i` in one of two ways: an error status and
nothing else, or `OK` and the result words of the row, after whatever the command did. -/
def Answers (i : Instr) (s : State) (r : Result) : Prop :=
  ∀ s', r = .next s' →
    (∃ e, e ≠ Status.ok ∧ s' = respond e [] s) ∨
    ∃ ws s₁, s' = respond .ok ws s₁ ∧ s₁.respOut = s.respOut ∧ ws.length = resultCount i

theorem raiseError_answers (i : Instr) (s : State) {e : Status} (he : e ≠ .ok) :
    Answers i s (raiseError e s) := by
  rintro _ ⟨⟩
  exact .inl ⟨e, he, rfl⟩

theorem complete_answers {i : Instr} {s s₁ : State} {ws : List Word}
    (hout : s₁.respOut = s.respOut) (hlen : ws.length = resultCount i) :
    Answers i s (complete ws s₁) := by
  rintro _ ⟨⟩
  exact .inr ⟨ws, s₁, rfl, hout, hlen⟩

theorem execCfgWr_answers (k : BitVec 8) (x : Word) (s : State) :
    Answers (.cfgWr k x) s (execCfgWr k x s) := by
  unfold execCfgWr
  split
  · exact raiseError_answers _ s (by decide)
  · exact complete_answers rfl rfl

theorem execCfgRd_answers (k : BitVec 8) (s : State) :
    Answers (.cfgRd k) s (execCfgRd k s) := by
  unfold execCfgRd
  split
  · exact raiseError_answers _ s (by decide)
  · exact complete_answers rfl rfl

theorem execMdlWr_answers (u : BitVec 8) (m e x : Word) (s : State) :
    Answers (.mdlWr u m e x) s (execMdlWr u m e x s) := by
  unfold execMdlWr
  split
  · exact raiseError_answers _ s (by decide)
  · split
    · exact complete_answers rfl rfl
    · exact raiseError_answers _ s (by decide)

theorem execMdlRd_answers (u : BitVec 8) (m e : Word) (s : State) :
    Answers (.mdlRd u m e) s (execMdlRd u m e s) := by
  unfold execMdlRd
  split
  · exact raiseError_answers _ s (by decide)
  · split
    · exact complete_answers rfl rfl
    · exact raiseError_answers _ s (by decide)

/-- Every frame emits one word for each of its four lanes (R262). -/
theorem renderFrames_length {p : Params} {g : Globals} {n : Nat} {vs vs' : List Voice}
    {rng ws rest : List Word} (h : renderFrames p g n vs rng = some (vs', ws, rest)) :
    ws.length = 4 * n := by
  induction n generalizing vs rng vs' ws rest with
  | zero =>
    cases h
    rfl
  | succ n ih =>
    unfold renderFrames at h
    cases ha : frameVoices p g vs 0#128 .zero rng with
    | none => simp [ha] at h
    | some acc =>
      cases hr : renderFrames p g n acc.voices acc.rng with
      | none => simp [ha, hr] at h
      | some r =>
        simp only [ha, hr, Option.some.injEq, Prod.mk.injEq] at h
        obtain ⟨-, rfl, -⟩ := h
        rw [List.length_append, ih hr, show (frameOut g acc.dir acc.res).words.length = 4 from rfl]
        omega

theorem execRender_answers (frameCount : Word) (s : State) :
    Answers (.render frameCount) s (execRender frameCount s) := by
  unfold execRender
  dsimp only
  split
  · rintro _ ⟨⟩
  · next hr => exact complete_answers rfl (renderFrames_length hr)

/-- The commands that address no unit, row by row. -/
theorem exec_whole_answers (i : Instr) (s : State) (hu : unitTarget i = none) :
    Answers i s (exec i s) := by
  cases i with
  | nop | sysReset | sysSuspend | sysResume => exact complete_answers rfl rfl
  | poolNext | noteOn | noteOff => exact complete_answers rfl rfl
  | cfgWr k x => exact execCfgWr_answers k x s
  | cfgRd k => exact execCfgRd_answers k s
  | mdlWr u m e x => exact execMdlWr_answers u m e x s
  | mdlRd u m e => exact execMdlRd_answers u m e s
  | render frameCount => exact execRender_answers frameCount s
  | _ => cases hu

/-- Every command that does not wait answers in one of the two ways. -/
theorem exec_answers (i : Instr) (s : State) : Answers i s (exec i s) := by
  cases hu : unitTarget i with
  | none => exact exec_whole_answers i s hu
  | some u =>
    obtain ⟨t, us⟩ := u
    rcases exec_unit_ends i s t us hu with
      ⟨e, hne, he⟩ | ⟨hw, -⟩ | ⟨v, ws, rng, drawn, -, hr, hlen, -⟩
    · rw [he]
      exact raiseError_answers i s hne
    · rw [hw]
      rintro _ ⟨⟩
    · rw [hr]
      exact complete_answers rfl hlen

/-- Settles O10: the status word of an answer is 0 exactly for `OK`. -/
theorem responseIsStatusThenResults : Obligations.ResponseIsStatusThenResults := by
  intro i s s' h
  rcases exec_answers i s s' h with ⟨e, hne, rfl⟩ | ⟨ws, s₁, rfl, hout, hlen⟩
  · refine ⟨statusWord e, [], respond_respOut e [] s, ?_, ?_, fun _ => ⟨rfl, rfl⟩⟩
    · rw [statusWord_toNat]
      exact statusCode_le e
    · exact fun hz => absurd ((statusWord_eq_zero_iff e).1 hz) hne
  · refine ⟨statusWord .ok, ws, ?_, by decide, fun _ => hlen, ?_⟩
    · rw [respond_respOut, hout]
    · exact fun hnz => absurd ((statusWord_eq_zero_iff .ok).2 rfl) hnz

end Sys2Proof.Machine
end

section
/-! SUPPORT. The primitives of spec/40_arith.md on the integers their words stand for: saturation
(R101), the sums (R102), the product and the sum of products (R103, R105), the quotient (R104). -/

namespace Sys2Proof.Machine

/-! ### Saturation (R101) -/

theorem fxSat_eq (i : Int) : fxSat i =
    if 2 ^ 127 - 1 < i then fxMax127 else if i < -2 ^ 127 then fxMin127 else BitVec.ofInt 128 i :=
  rfl

theorem toInt_fxSat (i : Int) : (fxSat i).toInt =
    if 2 ^ 127 - 1 < i then 2 ^ 127 - 1 else if i < -2 ^ 127 then -2 ^ 127 else i := by
  rw [fxSat_eq, apply_ite BitVec.toInt, apply_ite BitVec.toInt]
  split
  next => decide
  next hi =>
    split
    next => decide
    next lo => exact BitVec.toInt_ofInt_eq_self (by decide) (by omega) (by omega)

/-- Saturation is exact on the integers a word can stand for. -/
theorem toInt_fxSat_of_range {i : Int} (lo : -2 ^ 127 ≤ i) (hi : i < 2 ^ 127) :
    (fxSat i).toInt = i := by
  rw [toInt_fxSat, if_neg (by omega), if_neg (by omega)]

/-- A word stands for an integer that does not saturate. -/
@[simp] theorem fxSat_toInt (a : Fx) : fxSat a.toInt = a :=
  BitVec.eq_of_toInt_eq (toInt_fxSat_of_range a.le_toInt BitVec.toInt_lt)

/-- `FX(k)` (R12) stands for `k * 2^64` wherever that does not saturate. -/
theorem toInt_fxOfInt {k : Int} (lo : -2 ^ 63 ≤ k) (hi : k < 2 ^ 63) :
    (fxOfInt k).toInt = k * 2 ^ 64 :=
  toInt_fxSat_of_range (by omega) (by omega)

theorem fxOne_eq_fxOfInt : fxOne = fxOfInt 1 := by decide

theorem zero_eq_fxOfInt : 0#128 = fxOfInt 0 := by decide

/-! ### Sums (R102) -/

theorem fxAdd_comm (a b : Fx) : fxAdd a b = fxAdd b a := by
  unfold fxAdd; rw [Int.add_comm]

@[simp] theorem fxAdd_zero (a : Fx) : fxAdd a 0#128 = a := by
  unfold fxAdd; rw [BitVec.toInt_zero, Int.add_zero, fxSat_toInt]

theorem fxAbs_eq (a : Fx) : fxAbs a = fxSat a.toInt.natAbs := by
  unfold fxAbs; congr 1; omega

/-! ### Products (R103, R105) -/

/-- The one rounding of R103 does nothing to a multiple of `2^64`. -/
theorem rndShift64_mul (i : Int) : rndShift64 (i * 2 ^ 64) = i := by
  unfold rndShift64; omega

theorem fxMul_comm (a b : Fx) : fxMul a b = fxMul b a := by
  unfold fxMul; rw [Int.mul_comm]

/-- The product with `FX(k)` is exact before it saturates. -/
theorem fxMul_fxOfInt (a : Fx) {k : Int} (lo : -2 ^ 63 ≤ k) (hi : k < 2 ^ 63) :
    fxMul a (fxOfInt k) = fxSat (a.toInt * k) := by
  unfold fxMul; rw [toInt_fxOfInt lo hi, ← Int.mul_assoc, rndShift64_mul]

@[simp] theorem fxMul_one (a : Fx) : fxMul a fxOne = a := by
  rw [fxOne_eq_fxOfInt, fxMul_fxOfInt a (by decide) (by decide), Int.mul_one, fxSat_toInt]

@[simp] theorem fxMul_zero (a : Fx) : fxMul a 0#128 = 0#128 := by
  rw [zero_eq_fxOfInt, fxMul_fxOfInt a (by decide) (by decide), Int.mul_zero]; rfl

theorem fxMul_neg_one (a : Fx) : fxMul a (fxOfInt (-1)) = fxNeg a := by
  rw [fxMul_fxOfInt a (by decide) (by decide), Int.mul_neg_one]; rfl

/-- A sum of one product is the product. -/
theorem fxDot_singleton (a b : Fx) : fxDot [(a.toInt, b.toInt)] = fxMul a b := by
  unfold fxDot fxMul; rw [List.map_singleton, List.sum_singleton]

/-- The sum is exact before its one rounding, so its order does not matter. -/
theorem fxDot_perm {ps qs : List (Int × Int)} (h : ps.Perm qs) : fxDot ps = fxDot qs := by
  unfold fxDot; rw [(h.map _).sum_eq]

/-! ### Quotients (R104) -/

/-- Truncating division by signs and magnitudes. -/
theorem tdiv_eq_sign_mul_natAbs_div (n d : Int) :
    n.tdiv d = n.sign * d.sign * ((n.natAbs / d.natAbs : Nat) : Int) := by
  rw [← Int.sign_mul_natAbs (n.tdiv d), Int.sign_tdiv, Int.natAbs_tdiv]
  split
  next h => rw [Nat.div_eq_of_lt h, Int.natCast_zero, Int.mul_zero, Int.zero_mul]
  next => rfl

theorem fxDiv_of_ne_zero (a : Fx) {b : Fx} (hb : b.toInt ≠ 0) :
    fxDiv a b = fxSat ((a.toInt * 2 ^ 64).tdiv b.toInt) := if_neg hb

theorem fxDiv_of_eq_zero (a : Fx) {b : Fx} (hb : b.toInt = 0) :
    fxDiv a b = if 0 < a.toInt then fxMax127 else if a.toInt < 0 then fxMin127 else 0#128 :=
  if_pos hb

/-- The quotient is the product of the signs with the quotient of the magnitudes. -/
theorem fxDiv_eq_sign_mul (a : Fx) {b : Fx} (hb : b.toInt ≠ 0) :
    fxDiv a b = fxSat (a.toInt.sign * b.toInt.sign *
      ((a.toInt.natAbs * 2 ^ 64 / b.toInt.natAbs : Nat) : Int)) := by
  have hsign : (a.toInt * 2 ^ 64).sign = a.toInt.sign := by
    rw [Int.sign_mul]; exact Int.mul_one _
  have habs : (a.toInt * 2 ^ 64).natAbs = a.toInt.natAbs * 2 ^ 64 := Int.natAbs_mul _ _
  rw [fxDiv_of_ne_zero a hb, tdiv_eq_sign_mul_natAbs_div, hsign, habs]

@[simp] theorem fxDiv_one (a : Fx) : fxDiv a fxOne = a := by
  have hone : fxOne.toInt = 2 ^ 64 := by decide
  rw [fxDiv_of_ne_zero a (by decide), hone, Int.mul_tdiv_cancel _ (by decide), fxSat_toInt]

@[simp] theorem fxDiv_zero_left (b : Fx) : fxDiv 0#128 b = 0#128 := by
  by_cases hb : b.toInt = 0
  · rw [fxDiv_of_eq_zero _ hb]; rfl
  · rw [fxDiv_of_ne_zero _ hb, BitVec.toInt_zero, Int.zero_mul, Int.zero_tdiv]; rfl

/-- A quotient of two integers is exact where the division is. -/
theorem fxDiv_fxOfInt_mul {k c : Int} (hc : c ≠ 0) (clo : -2 ^ 63 ≤ c) (chi : c < 2 ^ 63)
    (lo : -2 ^ 63 ≤ k * c) (hi : k * c < 2 ^ 63) :
    fxDiv (fxOfInt (k * c)) (fxOfInt c) = fxOfInt k := by
  have hden : c * 2 ^ 64 ≠ 0 := by omega
  have hassoc : k * c * 2 ^ 64 * 2 ^ 64 = k * 2 ^ 64 * (c * 2 ^ 64) := by ring
  have hne : (fxOfInt c).toInt ≠ 0 := by rwa [toInt_fxOfInt clo chi]
  rw [fxDiv_of_ne_zero _ hne, toInt_fxOfInt clo chi, toInt_fxOfInt lo hi, hassoc,
    Int.mul_tdiv_cancel _ hden]
  rfl

/-! ### The statements -/

/-- Settles O26: the model's rounding is the one R103 writes, the laws are those of the exact
integer product and sum, and the examples are evaluated. -/
theorem fxMulAndDotRoundOnce : Obligations.FxMulAndDotRoundOnce :=
  ⟨fun a b => ⟨rfl, fxMul_comm a b, fxMul_one a, fxMul_zero a, fxMul_neg_one a,
      fxDot_singleton a b⟩,
    fun _ => rfl, fun _ _ => fxDot_perm, by decide, by decide, by decide⟩

/-- Settles O27: truncation is read by signs and magnitudes; the examples are evaluated. -/
theorem fxDivTruncates : Obligations.FxDivTruncates :=
  ⟨fun a _ => ⟨fxDiv_eq_sign_mul a, fxDiv_of_eq_zero a, fxDiv_one a⟩, by decide⟩

/-- Settles O25: the sums saturate once, and `FX_MAX + 1 - 1` depends on the order. -/
theorem fxSaturatingSums : Obligations.FxSaturatingSums :=
  ⟨toInt_fxSat, fun a b => ⟨rfl, rfl, rfl, fxAbs_eq a, fxAdd_comm a b⟩,
    ⟨fxMax127, fxOne, fxOfInt (-1), by decide⟩, by decide, by decide⟩

end Sys2Proof.Machine
end

section
/-! SUPPORT. The exact powers of two (P3 of R109) and the fixed values (log entries 22 and 23), of
the record the commands run on and of every `REFNUM` (R110), with the octaves of spec/47_voice.md
R236 and R239 that the powers make exact. -/

namespace Sys2Proof.Machine

/-! ### The machine's powers of two -/

/-- The word that stands for `2^n`, below the sign bit. -/
theorem toInt_ofNat_two_pow {n : Nat} (h : n ≤ 126) :
    (BitVec.ofNat 128 (2 ^ n)).toInt = 2 ^ n := by
  have hlt : 2 ^ n < 2 ^ 127 := Nat.pow_lt_pow_right (by decide) (by omega)
  have hnat : (BitVec.ofNat 128 (2 ^ n)).toNat = 2 ^ n :=
    Nat.mod_eq_of_lt (hlt.trans (by decide))
  rw [BitVec.toInt_eq_toNat_of_lt (by rw [hnat]; omega), hnat]
  exact Nat.cast_pow 2 n

theorem exactPow2_fxOfInt {k : Int} (lo : -64 ≤ k) (hi : k ≤ 62) :
    exactPow2 (fxOfInt k) = some (BitVec.ofNat 128 (2 ^ (64 + k).toNat)) := by
  have hquot : k * 2 ^ 64 / 0x10000000000000000 = k := by omega
  have hrem : k * 2 ^ 64 % 0x10000000000000000 = 0 := by omega
  unfold exactPow2
  rw [toInt_fxOfInt (by omega) (by omega), hquot]
  exact if_pos ⟨hrem, lo, hi⟩

theorem numPow_two_fxOfInt {k : Int} (lo : -64 ≤ k) (hi : k ≤ 62) :
    numPow (fxOfInt 2) (fxOfInt k) = BitVec.ofNat 128 (2 ^ (64 + k).toNat) := by
  unfold numPow
  rw [if_pos rfl, exactPow2_fxOfInt lo hi, Option.getD_some]

theorem machineNum_hasExactPowers : HasExactPowers machineNum := fun k lo hi => by
  show (numPow (fxOfInt 2) (fxOfInt k)).toInt = _
  rw [numPow_two_fxOfInt lo hi, toInt_ofNat_two_pow (by omega)]

theorem machineNum_hasFixedValues : HasFixedValues machineNum :=
  ⟨numExp_zero, numLn_one, numSin_zero, numCos_zero, numSqrt_zero⟩

theorem machineNum_hasUnitValues : HasUnitValues machineNum :=
  ⟨numSqrt_one, numPow_one_zero⟩

/-! ### Octaves (R236, R239) -/

/-- A whole number of octaves in semitones gives a whole exponent, so the power is exact. -/
theorem numPow_two_octaves {k : Int} (lo : -64 ≤ k) (hi : k ≤ 62) :
    numPow (fxOfInt 2) (fxDiv (fxOfInt (k * 12)) (fxOfInt 12)) =
      BitVec.ofNat 128 (2 ^ (64 + k).toNat) := by
  rw [fxDiv_fxOfInt_mul (by decide) (by decide) (by decide) (by omega) (by omega),
    numPow_two_fxOfInt lo hi]

/-- A note `k` octaves from note 69 is at 440 Hz times `2^k`. -/
theorem voiNote2freq_octaves {note k : Int} (hnote : note - 69 = k * 12) (lo : -64 ≤ k)
    (hi : k ≤ 62) :
    voiNote2freq note = fxMul (fxOfInt 440) (BitVec.ofNat 128 (2 ^ (64 + k).toNat)) := by
  unfold voiNote2freq
  rw [hnote, numPow_two_octaves lo hi]

/-- A coarse offset of `k` octaves with no fine offset is the factor `2^k`. -/
theorem voiPitchFactor_octaves {coarse : Fx} {k : Int} (hcoarse : coarse = fxOfInt (k * 12))
    (lo : -64 ≤ k) (hi : k ≤ 62) :
    voiPitchFactor coarse 0#128 = BitVec.ofNat 128 (2 ^ (64 + k).toNat) := by
  unfold voiPitchFactor
  rw [hcoarse, fxDiv_zero_left, fxAdd_zero, numPow_two_octaves lo hi]

/-- Settles O28: each octave is the general one at `k` = 0, 1 and -1. -/
theorem exactPowersAndOctaves : Obligations.ExactPowersAndOctaves := by
  refine ⟨machineNum_hasExactPowers, machineNum_hasFixedValues, machineNum_hasUnitValues,
    fun _ => rfl, ?note69, ?note81, ?note57, ?same, ?up, ?down⟩
  case note69 => rw [voiNote2freq_octaves (k := 0) (by decide) (by decide) (by decide)]; decide
  case note81 => rw [voiNote2freq_octaves (k := 1) (by decide) (by decide) (by decide)]; decide
  case note57 => rw [voiNote2freq_octaves (k := -1) (by decide) (by decide) (by decide)]; decide
  case same => rw [voiPitchFactor_octaves (k := 0) (by decide) (by decide) (by decide)]; decide
  case up => rw [voiPitchFactor_octaves (k := 1) (by decide) (by decide) (by decide)]; decide
  case down => rw [voiPitchFactor_octaves (k := -1) (by decide) (by decide) (by decide)]; decide

/-! ### `REFNUM` (R110) -/

/-- A real number that a 2^-64 grid holds exactly rounds to its own word: no other integer is within
one half of it. -/
theorem IsRounded.eq_fxSat {r : ℝ} {w : Fx} (h : IsRounded r w) {n : Int} (hr : r * 2 ^ 64 = n) :
    w = fxSat n := by
  obtain ⟨i, hnear, -, rfl⟩ := h
  have hlt : |((n - i : Int) : ℝ)| < 1 := by
    rw [Int.cast_sub, ← hr]
    exact hnear.trans_lt (by norm_num)
  have hzero : n - i = 0 := Int.abs_lt_one_iff.1 (by exact_mod_cast hlt)
  rw [Int.eq_of_sub_eq_zero hzero]

theorem IsRounded.eq_zero {w : Fx} (h : IsRounded 0 w) : w = 0#128 :=
  (h.eq_fxSat (n := 0) (by simp)).trans (by decide)

theorem IsRounded.eq_one {w : Fx} (h : IsRounded 1 w) : w = fxOne :=
  (h.eq_fxSat (n := 2 ^ 64) (by norm_num)).trans (by decide)

/-- A power of two on the grid and below saturation rounds to itself. -/
theorem IsRounded.toInt_two_zpow {k : Int} {w : Fx} (lo : -64 ≤ k) (hi : k ≤ 62)
    (h : IsRounded (2 ^ k) w) : w.toInt = 2 ^ (64 + k).toNat := by
  have hgrid : (2 : ℝ) ^ k * 2 ^ 64 = ((2 ^ (64 + k).toNat : Int) : ℝ) := by
    have hexp : k + 64 = ((64 + k).toNat : Int) := by omega
    calc (2 : ℝ) ^ k * 2 ^ 64 = 2 ^ (k + 64) := (zpow_add₀ two_ne_zero k 64).symm
      _ = 2 ^ (64 + k).toNat := by rw [hexp, zpow_natCast]
      _ = ((2 ^ (64 + k).toNat : Int) : ℝ) := by push_cast; rfl
  have hpos : (0 : Int) ≤ 2 ^ (64 + k).toNat := by positivity
  have hlt : (2 : Int) ^ (64 + k).toNat < 2 ^ 127 := pow_lt_pow_right₀ (by decide) (by omega)
  rw [h.eq_fxSat hgrid, toInt_fxSat_of_range (by omega) hlt]

/-- The real number that `FX(k)` stands for is `k`. -/
theorem toInt_fxOfInt_div {k : Int} (lo : -2 ^ 63 ≤ k) (hi : k < 2 ^ 63) :
    ((fxOfInt k).toInt / 2 ^ 64 : ℝ) = k := by
  rw [toInt_fxOfInt lo hi]
  rw [Int.cast_mul, Int.cast_pow, Int.cast_ofNat]
  exact mul_div_cancel_right₀ _ (pow_ne_zero 64 two_ne_zero)

theorem toInt_fxOne_div : (fxOne.toInt / 2 ^ 64 : ℝ) = 1 := by
  rw [fxOne_eq_fxOfInt, toInt_fxOfInt_div (by decide) (by decide), Int.cast_one]

theorem toInt_zero_div : ((0#128 : Fx).toInt / 2 ^ 64 : ℝ) = 0 := by
  rw [BitVec.toInt_zero, Int.cast_zero, zero_div]

section
variable {num : NumRecord} (h : IsRefNum num)
include h

theorem IsRefNum.hasExactPowers : HasExactPowers num := fun k lo hi => by
  have hpow := h.powPos (fxOfInt 2) (fxOfInt k) (by decide)
  rw [toInt_fxOfInt_div (by omega) (by omega), toInt_fxOfInt_div (by decide) (by decide),
    Int.cast_ofNat, mul_comm, ← Real.rpow_def_of_pos two_pos,
    Real.rpow_intCast] at hpow
  exact hpow.toInt_two_zpow lo hi

theorem IsRefNum.hasFixedValues : HasFixedValues num := by
  have hexp := h.exp 0#128
  have hln := h.lnPos fxOne (by decide)
  have hsin := h.sin 0#128
  have hcos := h.cos 0#128
  have hsqrt := h.sqrtNonneg 0#128 (by decide)
  rw [toInt_zero_div] at hexp hsin hcos hsqrt
  rw [toInt_fxOne_div, Real.log_one] at hln
  rw [Real.exp_zero] at hexp
  rw [Real.sin_zero] at hsin
  rw [Real.cos_zero] at hcos
  rw [Real.sqrt_zero] at hsqrt
  exact ⟨hexp.eq_one, hln.eq_zero, hsin.eq_zero, hcos.eq_one, hsqrt.eq_zero⟩

theorem IsRefNum.hasUnitValues : HasUnitValues num := by
  have hsqrt := h.sqrtNonneg fxOne (by decide)
  have hpow := h.powPos fxOne 0#128 (by decide)
  rw [toInt_fxOne_div, Real.sqrt_one] at hsqrt
  rw [toInt_zero_div, zero_mul, Real.exp_zero] at hpow
  exact ⟨hsqrt.eq_one, hpow.eq_one⟩

end

/-- Settles O29: at each of these arguments the real function has a value on the grid, which rounds
to itself. -/
theorem refNumHasExactPowers : Obligations.RefNumHasExactPowers :=
  fun _ h => ⟨h.hasExactPowers, h.hasFixedValues, h.hasUnitValues⟩

end Sys2Proof.Machine
end

section
/-! SUPPORT. The ENV commands of spec/41_envelope.md on a legal target, and the procedures behind
them: tension normalisation (R131), the coefficient pairs (R132) and the step of one sample
(R139). -/

namespace Sys2Proof.Machine

/-! ### A command on the Envelope of a voice -/

/-- The one legal selector of the ENV rows names the Envelope (R82, R84). -/
theorem selEnv_wf {nv : Nat} {t : Target} (h : t.wf nv [0x05#8] = true) : selEnv t.u = some () := by
  obtain ⟨-, hu, -, -⟩ := (Target.wf_iff nv [0x05#8] t).1 h
  rw [List.mem_singleton.1 hu]
  rfl

section
variable {t : Target} {s : State}

/-- An ENV command on a legal target replaces the Envelope it addresses and answers `OK`. -/
theorem atEnv_wf (f : Envelope → Envelope × List Word) (h : t.wf s.nv [0x05#8] = true) :
    atEnv t s f = .next (respond .ok (f (voiceOf s t).noise.env).2
      (withVoice s t ((voiceOf s t).setEnv (f (voiceOf s t).noise.env).1))) :=
  atVoice_wf selEnv [0x05#8] t s _ () h (selEnv_wf h)

/-- An ENV command that answers no result word. -/
theorem atEnv_silent_wf (f : Envelope → Envelope) (h : t.wf s.nv [0x05#8] = true) :
    atEnv t s (fun u => (f u, [])) = .next (respond .ok []
      (withVoice s t ((voiceOf s t).setEnv (f (voiceOf s t).noise.env)))) :=
  atEnv_wf _ h

theorem exec_envInit_wf (srate att dec sus rel ta td tr : Word) (h : t.wf s.nv [0x05#8] = true) :
    exec (.envInit t srate att dec sus rel ta td tr) s = .next (respond .ok [] (withVoice s t
      ((voiceOf s t).setEnv
        (envInitProc (voiceOf s t).noise.env srate att dec sus rel ta td tr)))) :=
  atEnv_silent_wf (fun u => envInitProc u srate att dec sus rel ta td tr) h

theorem exec_envAtk_wf (scale : Word) (h : t.wf s.nv [0x05#8] = true) :
    exec (.envAtk t scale) s = .next (respond .ok [] (withVoice s t
      ((voiceOf s t).setEnv (envAttackProc (voiceOf s t).noise.env scale)))) :=
  atEnv_silent_wf (fun u => envAttackProc u scale) h

theorem exec_envDec_wf (h : t.wf s.nv [0x05#8] = true) :
    exec (.envDec t) s = .next (respond .ok [] (withVoice s t
      ((voiceOf s t).setEnv { (voiceOf s t).noise.env with state := .decay }))) :=
  atEnv_silent_wf (fun u => { u with state := .decay }) h

theorem exec_envSus_wf (h : t.wf s.nv [0x05#8] = true) :
    exec (.envSus t) s = .next (respond .ok [] (withVoice s t
      ((voiceOf s t).setEnv { (voiceOf s t).noise.env with state := .sustain }))) :=
  atEnv_silent_wf (fun u => { u with state := .sustain }) h

theorem exec_envRel_wf (h : t.wf s.nv [0x05#8] = true) :
    exec (.envRel t) s = .next (respond .ok [] (withVoice s t
      ((voiceOf s t).setEnv (envReleaseProc (voiceOf s t).noise.env)))) :=
  atEnv_silent_wf envReleaseProc h

theorem exec_envRst_wf (h : t.wf s.nv [0x05#8] = true) :
    exec (.envRst t) s = .next (respond .ok [] (withVoice s t
      ((voiceOf s t).setEnv (envResetProc (voiceOf s t).noise.env)))) :=
  atEnv_silent_wf envResetProc h

theorem exec_envProc_wf (h : t.wf s.nv [0x05#8] = true) :
    exec (.envProc t) s = .next (respond .ok
      [wordOfNat (envProcess (voiceOf s t).noise.env).state.code,
        (envProcess (voiceOf s t).noise.env).env]
      (withVoice s t ((voiceOf s t).setEnv (envProcess (voiceOf s t).noise.env)))) :=
  atEnv_wf (fun u =>
    (envProcess u, [wordOfNat (envProcess u).state.code, (envProcess u).env])) h

end

/-! ### One sample (R139) -/

section
variable {u : Envelope}

theorem envProcess_of_idle (h : u.state = .off ∨ u.state = .sustain) : envProcess u = u := by
  unfold envProcess
  rcases h with h | h <;> simp only [h]

theorem envProcess_of_attack (h : u.state = .attack) :
    envProcess u =
      if u.scale.toInt ≤ (fxAdd u.ab (fxMul u.env u.ac)).toInt then
        { u with env := u.scale, state := .decay }
      else { u with env := fxAdd u.ab (fxMul u.env u.ac) } := by
  simp only [envProcess, h]

theorem envProcess_of_decay (h : u.state = .decay) :
    envProcess u =
      if (fxAdd u.db (fxMul u.env u.dc)).toInt ≤ (fxMul u.sus u.scale).toInt then
        { u with env := fxMul u.sus u.scale, state := .sustain }
      else { u with env := fxAdd u.db (fxMul u.env u.dc) } := by
  simp only [envProcess, h]

theorem envProcess_of_release (h : u.state = .release) :
    envProcess u =
      if (fxAdd u.rb (fxMul u.env u.rc)).toInt ≤ 0 then { u with env := 0#128, state := .off }
      else { u with env := fxAdd u.rb (fxMul u.env u.rc) } := by
  simp only [envProcess, h, fxLe, BitVec.toInt_zero]

end

/-- Settles O33: the Envelope after the command is `envProcess` of the one before, which each
segment's equation gives on both sides of its end test. -/
theorem envProcCommand : Obligations.EnvProcCommand := by
  rintro s t u hwf rfl
  refine ⟨_, exec_envProc_wf hwf, envProcess_of_idle, ?attack, ?decay, ?release⟩
  case attack =>
    rintro hstate _ rfl
    rw [envProcess_of_attack hstate]
    exact ⟨fun hend => if_pos hend, fun hgo => if_neg (Int.not_le.2 hgo)⟩
  case decay =>
    rintro hstate _ rfl
    rw [envProcess_of_decay hstate]
    exact ⟨fun hend => if_pos hend, fun hgo => if_neg (Int.not_le.2 hgo)⟩
  case release =>
    rintro hstate _ rfl
    rw [envProcess_of_release hstate]
    exact ⟨fun hend => if_pos hend, fun hgo => if_neg (Int.not_le.2 hgo)⟩

/-! ### Tension normalisation (R131) -/

theorem toInt_fxMin (a b : Fx) : (fxMin a b).toInt = min a.toInt b.toInt := by
  unfold fxMin
  split <;> omega

theorem toInt_fxMax (a b : Fx) : (fxMax a b).toInt = max a.toInt b.toInt := by
  unfold fxMax
  split <;> omega

theorem toInt_fxAdd_of_range {a b : Fx} (lo : -2 ^ 127 ≤ a.toInt + b.toInt)
    (hi : a.toInt + b.toInt < 2 ^ 127) : (fxAdd a b).toInt = a.toInt + b.toInt :=
  toInt_fxSat_of_range lo hi

theorem toInt_fxSub_of_range {a b : Fx} (lo : -2 ^ 127 ≤ a.toInt - b.toInt)
    (hi : a.toInt - b.toInt < 2 ^ 127) : (fxSub a b).toInt = a.toInt - b.toInt :=
  toInt_fxSat_of_range lo hi

theorem toInt_fxOne : fxOne.toInt = 2 ^ 64 := by decide

theorem toInt_c0001 : c0001.toInt = 0x004189374BC6A7F0 := by decide

theorem toInt_c3001 : c3001.toInt = 3 * fxOne.toInt + c0001.toInt := by decide

/-- The integer that a tension stands for, limited to `[-1, 1]` as the first line of R131 does. -/
def clampedTension (t : Fx) : Int := max (-fxOne.toInt) (min fxOne.toInt t.toInt)

theorem toInt_clampTension (t : Fx) :
    (fxMax (fxOfInt (-1)) (fxMin fxOne t)).toInt = clampedTension t := by
  have hneg : (fxOfInt (-1)).toInt = -fxOne.toInt := by decide
  rw [toInt_fxMax, toInt_fxMin, hneg, clampedTension]

/-- No operation of R131 saturates, so its pseudocode can be read on the integers. -/
theorem toInt_envNormTension (t : Fx) :
    (envNormTension t).toInt =
      if clampedTension t = 0 then (fxOfInt 100).toInt
      else if 0 < clampedTension t then 2 * fxOne.toInt + c0001.toInt - clampedTension t
      else fxOne.toInt + c0001.toInt + clampedTension t := by
  have hone := toInt_fxOne
  have hmil := toInt_c0001
  have hthree := toInt_c3001
  have hx := toInt_clampTension t
  have hrange : -fxOne.toInt ≤ clampedTension t ∧ clampedTension t ≤ fxOne.toInt := by
    unfold clampedTension; omega
  unfold envNormTension
  dsimp only
  generalize fxMax (fxOfInt (-1)) (fxMin fxOne t) = x at hx ⊢
  have htp : (fxAdd x fxOne).toInt = clampedTension t + fxOne.toInt := by
    rw [toInt_fxAdd_of_range (by omega) (by omega), hx]
  have hzero : fxAdd x fxOne = fxOne ↔ clampedTension t = 0 := by
    rw [← BitVec.toInt_inj, htp]; omega
  have hpos : fxLt fxOne (fxAdd x fxOne) ↔ 0 < clampedTension t := by
    rw [fxLt, htp]; omega
  simp only [hzero, hpos, apply_ite BitVec.toInt]
  split
  next => rfl
  next =>
    split
    next => rw [toInt_fxSub_of_range (by omega) (by omega)]; omega
    next => rw [toInt_fxAdd_of_range (by omega) (by omega)]; omega

/-- Settles O34: on the integers each clause is linear in the clamped tension. -/
theorem envTensionRange : Obligations.EnvTensionRange := by
  intro t
  have hone := toInt_fxOne
  have ht := toInt_envNormTension t
  have hx : clampedTension t = max (-fxOne.toInt) (min fxOne.toInt t.toInt) := rfl
  refine ⟨fun hzero => ?_, fun hneg => ?_, fun hpos => ?_, fun habove => ?_, fun hbelow => ?_⟩
  · rw [← BitVec.toInt_inj, ht, if_pos (by omega)]
  · rw [ht, if_neg (by omega), if_neg (by omega)]; omega
  · rw [ht, if_neg (by omega), if_pos (by omega)]; omega
  · have hsame : clampedTension t = clampedTension fxOne := by unfold clampedTension; omega
    rw [← BitVec.toInt_inj, ht, toInt_envNormTension fxOne, hsame]
  · rw [← BitVec.toInt_inj, ht, if_neg (by omega), if_neg (by omega)]; omega

/-! ### The forced segments and the parameters (R134, R136, R137, R140) -/

/-- Settles O30: each command is the shared rule for an ENV command on a legal target. -/
theorem envForcedSegments : Obligations.EnvForcedSegments :=
  fun _ _ hwf => ⟨exec_envDec_wf hwf, exec_envSus_wf hwf, exec_envRst_wf hwf⟩

/-- Settles O31: `env_init` is R134 line by line. -/
theorem envInitCommand : Obligations.EnvInitCommand :=
  fun _ _ srate att dec sus rel ta td tr hwf =>
    exec_envInit_wf srate att dec sus rel ta td tr hwf

/-! ### The coefficient pairs (R132) -/

theorem fxSub_self (a : Fx) : fxSub a a = 0#128 := by
  unfold fxSub; rw [Int.sub_self]; rfl

theorem fxDiv_self {a : Fx} (h : a ≠ 0#128) : fxDiv a a = fxOne := by
  have hne : a.toInt ≠ 0 := fun hz => h (BitVec.eq_of_toInt_eq hz)
  rw [fxDiv_of_ne_zero a hne, Int.mul_tdiv_cancel_left _ hne]
  decide

section
variable {tb1 tb2 tc rate tension mult p c : Fx}

theorem envCalcCoefs_of_gt_one (h : fxOne.toInt < tension.toInt)
    (hp : p = fxCube (fxSub tension fxOne))
    (hc : c = numExp (fxDiv (numLn (fxDiv (fxAdd tc p) p)) rate)) :
    envCalcCoefs tb1 tb2 tc rate tension mult =
      (fxMul (fxSub tb1 (fxMul mult p)) (fxSub fxOne c), c) := by
  subst hp hc
  exact if_pos h

theorem envCalcCoefs_of_le_one (h : tension.toInt ≤ fxOne.toInt) (hp : p = fxCube tension)
    (hc : c = numExp (fxNeg (fxDiv (numLn (fxDiv (fxAdd tc p) p)) rate))) :
    envCalcCoefs tb1 tb2 tc rate tension mult =
      (fxMul (fxAdd tb2 (fxMul mult p)) (fxSub fxOne c), c) := by
  subst hp hc
  exact if_neg (Int.not_lt.2 h)

/-- With nothing to go the quotient under the logarithm of R132 is 1. -/
theorem numLn_quotient_of_tc_zero (h : p ≠ 0#128) :
    numLn (fxDiv (fxAdd 0#128 p) p) = 0#128 := by
  rw [fxAdd_comm, fxAdd_zero, fxDiv_self h, numLn_one]

/-- With `tc` = 0 the pair holds a value: `c` is `exp(0)`, and `b` has the factor `1 - c`. -/
theorem envCalcCoefs_of_tc_zero
    (hp : p = if fxOne.toInt < tension.toInt then fxCube (fxSub tension fxOne) else fxCube tension)
    (h : p ≠ 0#128) : envCalcCoefs tb1 tb2 0#128 rate tension mult = (0#128, fxOne) := by
  have hneg : fxNeg 0#128 = 0#128 := by decide
  by_cases ht : fxOne.toInt < tension.toInt
  · rw [if_pos ht] at hp
    rw [envCalcCoefs_of_gt_one ht hp rfl, numLn_quotient_of_tc_zero h, fxDiv_zero_left, numExp_zero,
      fxSub_self, fxMul_zero]
  · rw [if_neg ht] at hp
    rw [envCalcCoefs_of_le_one (Int.not_lt.1 ht) hp rfl, numLn_quotient_of_tc_zero h,
      fxDiv_zero_left, hneg, numExp_zero, fxSub_self, fxMul_zero]

end

/-- Settles O32: the commands by the shared rule for an ENV command, the pair by the two branches of
`env_calc_coefs` and its fixed point. -/
theorem envAttackAndRelease : Obligations.EnvAttackAndRelease := by
  refine ⟨?commands, fun _ _ _ _ _ _ _ _ => ⟨envCalcCoefs_of_gt_one, envCalcCoefs_of_le_one⟩,
    fun _ _ _ _ _ _ => envCalcCoefs_of_tc_zero⟩
  rintro s t scale _ _ hwf rfl rfl
  exact ⟨exec_envAtk_wf scale hwf, exec_envRel_wf hwf⟩

end Sys2Proof.Machine
end

section
/-! SUPPORT. The FLT commands of spec/42_filter.md on a legal target, whichever of the four Filters
of a voice it addresses (R150), the poles at frequency 0 and direct form I lane by lane (R156). -/

namespace Sys2Proof.Machine

/-! ### A command on a Filter of a voice -/

theorem selFilter_filterCode (sel : FilterSel) : selFilter (filterCode sel) = some sel := by
  cases sel with
  | mallet => rfl
  | noise => rfl
  | post sd => cases sd <;> rfl

/-- A legal target with the code of one Filter selects that Filter (R82, R84). -/
theorem selFilter_wf {nv : Nat} {t : Target} {sel : FilterSel}
    (h : t.wf nv [filterCode sel] = true) : selFilter t.u = some sel := by
  obtain ⟨-, hu, -, -⟩ := (Target.wf_iff nv [filterCode sel] t).1 h
  rw [List.mem_singleton.1 hu]
  exact selFilter_filterCode sel

section
variable {t : Target} {s : State} (one : BiquadFilter Fx → BiquadFilter Fx × List Word)
  (four : BiquadFilter V4 → BiquadFilter V4 × List Word)

theorem atFilter_mallet_wf (h : t.wf s.nv [0x02#8] = true) :
    atFilter t s one four = .next (respond .ok (one (voiceOf s t).mallet.flt).2
      (withVoice s t ((voiceOf s t).setMalletFlt (one (voiceOf s t).mallet.flt).1))) :=
  atVoice_wf selFilter [0x02#8] t s _ .mallet h (selFilter_wf h)

theorem atFilter_noise_wf (h : t.wf s.nv [0x04#8] = true) :
    atFilter t s one four = .next (respond .ok (one (voiceOf s t).noise.flt).2
      (withVoice s t ((voiceOf s t).setNoiseFlt (one (voiceOf s t).noise.flt).1))) :=
  atVoice_wf selFilter [0x04#8] t s _ .noise h (selFilter_wf h)

theorem atFilter_post_wf {sd : Side} (h : t.wf s.nv [postCode sd] = true) :
    atFilter t s one four = .next (respond .ok (four ((voiceOf s t).res sd).post).2
      (withVoice s t ((voiceOf s t).setPost sd (four ((voiceOf s t).res sd).post).1))) :=
  atVoice_wf selFilter [postCode sd] t s _ (.post sd) h (selFilter_wf (sel := .post sd) h)

/-- A command that replaces the coefficients, and does so alike for both lane counts, replaces
those of the Filter it addresses. -/
theorem atFilter_withCoefs_wf {one : BiquadFilter Fx → BiquadFilter Fx}
    {four : BiquadFilter V4 → BiquadFilter V4} {sel : FilterSel} {a1 a2 b0 b1 b2 : Fx}
    (h : t.wf s.nv [filterCode sel] = true) (hone : ∀ u, one u = withCoefs u a1 a2 b0 b1 b2)
    (hfour : ∀ u, four u = withCoefs u a1 a2 b0 b1 b2) :
    atFilter t s (fun u => (one u, [])) (fun u => (four u, [])) =
      .next (respond .ok [] (withVoice s t
        (withFilterCoefs (voiceOf s t) sel a1 a2 b0 b1 b2))) := by
  unfold withFilterCoefs
  cases sel with
  | mallet => rw [atFilter_mallet_wf _ _ h, hone]
  | noise => rw [atFilter_noise_wf _ _ h, hone]
  | post sd => rw [atFilter_post_wf _ _ h, hfour]

end

/-! ### What each command runs on its Filter -/

section
variable (t : Target) (s : State)

theorem exec_fltLp (srate freq q : Word) : exec (.fltLp t srate freq q) s =
    atFilter t s (fun u => (fltLpProc u srate freq q, []))
      (fun u => (fltLpProc u srate freq q, [])) := rfl

theorem exec_fltBp (srate freq q : Word) : exec (.fltBp t srate freq q) s =
    atFilter t s (fun u => (fltBpProc u srate freq q, []))
      (fun u => (fltBpProc u srate freq q, [])) := rfl

theorem exec_fltHp (srate freq q : Word) : exec (.fltHp t srate freq q) s =
    atFilter t s (fun u => (fltHpProc u srate freq q, []))
      (fun u => (fltHpProc u srate freq q, [])) := rfl

theorem exec_fltDf1 (x0 x1 x2 x3 : Word) : exec (.fltDf1 t x0 x1 x2 x3) s =
    atFilter t s (fun u => (fltDf1One u x0, [(fltDf1One u x0).y0, 0#128, 0#128, 0#128]))
      (fun u => (fltDf1Four u ⟨x0, x1, x2, x3⟩, (fltDf1Four u ⟨x0, x1, x2, x3⟩).y0.words)) := rfl

theorem exec_fltClr (x0 x1 x2 x3 : Word) : exec (.fltClr t x0 x1 x2 x3) s =
    atFilter t s (fun u => (fltClearOne u x0, []))
      (fun u => (fltClearFour u ⟨x0, x1, x2, x3⟩, [])) := rfl

theorem exec_fltRst : exec (.fltRst t) s =
    atFilter t s (fun u => (fltResetOne u, [])) (fun u => (fltResetFour u, [])) := rfl

end

/-! ### The coefficients (R151, R153 to R155) -/

/-- The lines of R151: any `w0`, `alpha` and `a0` that meet them give the poles. -/
theorem fltPoles_eq {srate freq q w0 alpha a0 : Fx}
    (hw0 : w0 = fxMul fxTwoPi (fxMin (fxDiv freq srate) c049))
    (halpha : alpha = fxDiv (numSin w0) (fxMul (fxOfInt 2) q)) (ha0 : a0 = fxAdd fxOne alpha) :
    fltPoles srate freq q =
      (fxDiv (fxMul (fxOfInt (-2)) (numCos w0)) a0, fxDiv (fxSub fxOne alpha) a0) := by
  subst hw0 halpha ha0
  rfl

section
variable {α : Type} (u : BiquadFilter α) {srate freq q a1 a2 : Fx}

theorem fltLpProc_eq_withCoefs (hpoles : fltPoles srate freq q = (a1, a2)) {lp : Fx}
    (hlp : lp = fxDiv (fxAdd (fxAdd fxOne a1) a2) (fxOfInt 4)) :
    fltLpProc u srate freq q = withCoefs u a1 a2 lp (fxMul (fxOfInt 2) lp) lp := by
  unfold fltLpProc withCoefs
  rw [hpoles, hlp]

theorem fltBpProc_eq_withCoefs (hpoles : fltPoles srate freq q = (a1, a2)) {bp : Fx}
    (hbp : bp = fxDiv (fxMul (fxSub fxOne a2) q) (fxOfInt 2)) :
    fltBpProc u srate freq q = withCoefs u a1 a2 bp 0#128 (fxNeg bp) := by
  unfold fltBpProc withCoefs
  rw [hpoles, hbp]

theorem fltHpProc_eq_withCoefs (hpoles : fltPoles srate freq q = (a1, a2)) {hp : Fx}
    (hhp : hp = fxDiv (fxAdd (fxSub fxOne a1) a2) (fxOfInt 4)) :
    fltHpProc u srate freq q = withCoefs u a1 a2 hp (fxMul (fxOfInt (-2)) hp) hp := by
  unfold fltHpProc withCoefs
  rw [hpoles, hhp]

end

/-- At frequency 0 the angle and `alpha` are 0 and the poles are those of `(1 - z⁻¹)²`, whatever
the sample rate and the resonance. -/
theorem fltPoles_freq_zero (srate q : Fx) :
    fltPoles srate 0#128 q = (fxOfInt (-2), fxOne) := by
  have hmin : fxMin 0#128 c049 = 0#128 := by decide
  have hw0 : 0#128 = fxMul fxTwoPi (fxMin (fxDiv 0#128 srate) c049) := by
    rw [fxDiv_zero_left, hmin, fxMul_zero]
  have halpha : 0#128 = fxDiv (numSin 0#128) (fxMul (fxOfInt 2) q) := by
    rw [numSin_zero, fxDiv_zero_left]
  have ha0 : fxOne = fxAdd fxOne 0#128 := (fxAdd_zero fxOne).symm
  have hsub : fxSub fxOne 0#128 = fxOne := by decide
  rw [fltPoles_eq hw0 halpha ha0, numCos_zero, fxMul_one, fxDiv_one, hsub, fxDiv_one]

/-- The numerator of the band-pass is 0 with `a2` = 1, whatever the resonance. -/
theorem fltBp_gain_of_a2_one (q : Fx) :
    fxDiv (fxMul (fxSub fxOne fxOne) q) (fxOfInt 2) = 0#128 := by
  rw [fxSub_self, fxMul_comm, fxMul_zero, fxDiv_zero_left]

/-! ### Direct form I on four lanes (R156) -/

theorem V4.lane_map5 (f : Fx → Fx → Fx → Fx → Fx → Fx) (p q r s t : V4) (l : Nat) :
    (V4.map5 f p q r s t).lane l = f (p.lane l) (q.lane l) (r.lane l) (s.lane l) (t.lane l) :=
  match l with
  | 0 | 1 | 2 | _ + 3 => rfl

theorem V4.eq_of_lane_eq {p q : V4} (h : ∀ l < 4, p.lane l = q.lane l) : p = q := by
  obtain ⟨p0, p1, p2, p3⟩ := p
  have h0 : p0 = q.l0 := h 0 (by decide)
  have h1 : p1 = q.l1 := h 1 (by decide)
  have h2 : p2 = q.l2 := h 2 (by decide)
  have h3 : p3 = q.l3 := h 3 (by decide)
  subst h0 h1 h2 h3
  rfl

/-- Each lane of the output is the tap of that lane alone. -/
theorem fltDf1Four_y0_lane (u : BiquadFilter V4) (x : V4) (l : Nat) :
    (fltDf1Four u x).y0.lane l =
      fltTap u (x.lane l) (u.x0.lane l) (u.x1.lane l) (u.y1.lane l) (u.y2.lane l) :=
  V4.lane_map5 _ _ _ _ _ _ l

/-! ### The statements -/

/-- Settles O35: each command replaces the coefficients by those of the poles, and the poles at
frequency 0 are integers. -/
theorem filterTuning : Obligations.FilterTuning := by
  intro s t sel srate freq q w0 alpha a0 a1 a2 lp bp hp hwf hw0 halpha ha0 ha1 ha2 hlp hbp hhp
  have hpoles : fltPoles srate freq q = (a1, a2) := by
    rw [fltPoles_eq hw0 halpha ha0, ha1, ha2]
  refine ⟨?lp, ?bp, ?hp, ?zero⟩
  case lp =>
    rw [exec_fltLp]
    exact atFilter_withCoefs_wf hwf (fun u => fltLpProc_eq_withCoefs u hpoles hlp)
      (fun u => fltLpProc_eq_withCoefs u hpoles hlp)
  case bp =>
    rw [exec_fltBp]
    exact atFilter_withCoefs_wf hwf (fun u => fltBpProc_eq_withCoefs u hpoles hbp)
      (fun u => fltBpProc_eq_withCoefs u hpoles hbp)
  case hp =>
    rw [exec_fltHp]
    exact atFilter_withCoefs_wf hwf (fun u => fltHpProc_eq_withCoefs u hpoles hhp)
      (fun u => fltHpProc_eq_withCoefs u hpoles hhp)
  case zero =>
    intro hfreq
    rw [hfreq, fltPoles_freq_zero, Prod.mk.injEq] at hpoles
    obtain ⟨h1, h2⟩ := hpoles
    rw [← h1, ← h2] at hlp hhp
    rw [← h2, fltBp_gain_of_a2_one] at hbp
    exact ⟨h1.symm, h2.symm, hlp.trans (by decide), hbp, hhp.trans (by decide)⟩

/-- Settles O36: one lane is the model's `fltDf1One`; four lanes are `fltDf1Four`, whose output is
known lane by lane. -/
theorem filterSample : Obligations.FilterSample := by
  intro s t x0 x1 x2 x3
  rw [exec_fltDf1]
  refine ⟨?mallet, ?noise, ?post⟩
  case mallet => rintro _ _ hwf rfl rfl; exact atFilter_mallet_wf _ _ hwf
  case noise => rintro _ _ hwf rfl rfl; exact atFilter_noise_wf _ _ hwf
  case post =>
    rintro sd f y hwf rfl hy
    have hout : y = (fltDf1Four ((voiceOf s t).res sd).post ⟨x0, x1, x2, x3⟩).y0 :=
      V4.eq_of_lane_eq fun l hl => (hy l hl).trans (fltDf1Four_y0_lane _ _ l).symm
    subst hout
    exact atFilter_post_wf _ _ hwf

/-- Settles O37: both commands seed the history, with the input and its response at the DC gain or
with zeros. -/
theorem filterHistory : Obligations.FilterHistory := by
  intro s t x0 x1 x2 x3
  rw [exec_fltClr, exec_fltRst]
  refine ⟨?mallet, ?noise, ?post⟩
  case mallet =>
    rintro _ _ hwf rfl rfl
    exact ⟨atFilter_mallet_wf _ _ hwf, atFilter_mallet_wf _ _ hwf⟩
  case noise =>
    rintro _ _ hwf rfl rfl
    exact ⟨atFilter_noise_wf _ _ hwf, atFilter_noise_wf _ _ hwf⟩
  case post =>
    rintro sd _ _ _ _ hwf rfl rfl rfl rfl
    exact ⟨atFilter_post_wf _ _ hwf, atFilter_post_wf _ _ hwf⟩

end Sys2Proof.Machine
end

section
/-! SUPPORT. The MLT commands of spec/43_mallet_noise.md on a legal target, and the countdown of a
Mallet sample by sample (R165, R167). -/

namespace Sys2Proof.Machine

/-! ### One sample (R167) -/

/-- A Mallet that has run out is silent and does not move. -/
theorem mltProcess_of_still {m : Mallet} (h : m.elapsed = 0#32) : mltProcess m = (m, 0#128) :=
  if_pos h

theorem mltProcess_of_sounding {m : Mallet} (h : m.elapsed ≠ 0#32) :
    mltProcess m =
      ({ impulse := fxMul m.impulse m.env, env := m.env, elapsed := m.elapsed - 1#32
         flt := fltDf1One m.flt m.impulse },
        fxMul (fltDf1One m.flt m.impulse).y0 (fxOfInt 2)) :=
  if_neg h

/-- The countdown goes down by one, and stays at 0. -/
theorem mltProcess_elapsed (m : Mallet) :
    (mltProcess m).1.elapsed.toNat = m.elapsed.toNat - 1 := by
  by_cases h : m.elapsed = 0#32
  · rw [mltProcess_of_still h, h]
    rfl
  · rw [mltProcess_of_sounding h]
    bv_omega

/-! ### Many samples (R165) -/

/-- The Mallet after `n` samples. -/
def malletAfter (n : Nat) (m : Mallet) : Mallet := (fun x => (mltProcess x).1)^[n] m

theorem malletAfter_succ (n : Nat) (m : Mallet) :
    malletAfter (n + 1) m = (mltProcess (malletAfter n m)).1 :=
  Function.iterate_succ_apply' _ n m

theorem malletAfter_add (k n : Nat) (m : Mallet) :
    malletAfter (k + n) m = malletAfter k (malletAfter n m) :=
  Function.iterate_add_apply _ k n m

theorem malletAfter_elapsed (n : Nat) (m : Mallet) :
    (malletAfter n m).elapsed.toNat = m.elapsed.toNat - n := by
  induction n with
  | zero => rfl
  | succ n ih => rw [malletAfter_succ, mltProcess_elapsed, ih, Nat.sub_sub]

theorem malletAfter_of_still {m : Mallet} (h : m.elapsed = 0#32) (n : Nat) :
    malletAfter n m = m :=
  Function.iterate_fixed (congrArg Prod.fst (mltProcess_of_still h)) n

/-- Once `elapsed` samples are over the countdown is at 0. -/
theorem malletAfter_still {n : Nat} {m : Mallet} (h : m.elapsed.toNat ≤ n) :
    (malletAfter n m).elapsed = 0#32 := by
  apply BitVec.eq_of_toNat_eq
  rw [malletAfter_elapsed, Nat.sub_eq_zero_of_le h]
  rfl

/-- Past its `elapsed` samples the Mallet stays as they left it. -/
theorem malletAfter_eq_of_le {n : Nat} {m : Mallet} (h : m.elapsed.toNat ≤ n) :
    malletAfter n m = malletAfter m.elapsed.toNat m := by
  rw [← Nat.sub_add_cancel h, malletAfter_add, malletAfter_of_still (malletAfter_still le_rfl)]

/-- Settles O39: the countdown by induction on the samples; past it the Mallet is a fixed point of
the sample. -/
theorem malletCountdown : Obligations.MalletCountdown := by
  intro n m
  refine ⟨malletAfter_elapsed n m, fun h => ?_⟩
  show mltProcess (malletAfter n m) = (malletAfter m.elapsed.toNat m, 0#128)
  rw [← malletAfter_eq_of_le h]
  exact mltProcess_of_still (malletAfter_still h)

/-! ### A command on the Mallet of a voice -/

/-- The one legal selector of the MLT rows names the Mallet (R82, R84). -/
theorem selMallet_wf {nv : Nat} {t : Target} (h : t.wf nv [0x01#8] = true) :
    selMallet t.u = some () := by
  obtain ⟨-, hu, -, -⟩ := (Target.wf_iff nv [0x01#8] t).1 h
  rw [List.mem_singleton.1 hu]
  rfl

section
variable {t : Target} {s : State}

/-- An MLT command on a legal target replaces the Mallet it addresses and answers `OK`. -/
theorem atVoice_selMallet_wf (f : Mallet → Mallet × List Word) (h : t.wf s.nv [0x01#8] = true) :
    atVoice selMallet t s (fun _ v => (v.setMallet (f v.mallet).1, (f v.mallet).2)) =
      .next (respond .ok (f (voiceOf s t).mallet).2
        (withVoice s t ((voiceOf s t).setMallet (f (voiceOf s t).mallet).1))) :=
  atVoice_wf selMallet [0x01#8] t s _ () h (selMallet_wf h)

theorem exec_mltTrig_wf (srate freq : Word) (h : t.wf s.nv [0x01#8] = true) :
    exec (.mltTrig t srate freq) s = .next (respond .ok [] (withVoice s t
      ((voiceOf s t).setMallet (mltTrigger (voiceOf s t).mallet srate freq)))) :=
  atVoice_selMallet_wf (fun m => (mltTrigger m srate freq, [])) h

theorem exec_mltProc_wf (h : t.wf s.nv [0x01#8] = true) :
    exec (.mltProc t) s = .next (respond .ok [(mltProcess (voiceOf s t).mallet).2]
      (withVoice s t ((voiceOf s t).setMallet (mltProcess (voiceOf s t).mallet).1))) :=
  atVoice_selMallet_wf (fun m => ((mltProcess m).1, [(mltProcess m).2])) h

theorem exec_mltClr_wf (h : t.wf s.nv [0x01#8] = true) :
    exec (.mltClr t) s = .next (respond .ok [] (withVoice s t
      ((voiceOf s t).setMallet (mltClear (voiceOf s t).mallet)))) :=
  atVoice_selMallet_wf (fun m => (mltClear m, [])) h

end

theorem Voice.setMallet_self (v : Voice) : v.setMallet v.mallet = v := rfl

/-- Settles O38: each command is the shared rule for an MLT command on a legal target; a sample is
taken apart by whether the countdown is at 0. -/
theorem malletCommands : Obligations.MalletCommands := by
  rintro s t srate freq _ hwf rfl
  refine ⟨exec_mltTrig_wf srate freq hwf, fun hstill => ?_, fun hsounds => ?_, exec_mltClr_wf hwf⟩
  · rw [exec_mltProc_wf hwf, mltProcess_of_still hstill, Voice.setMallet_self]
  · rw [exec_mltProc_wf hwf, mltProcess_of_sounding hsounds]

end Sys2Proof.Machine
end

section
/-! SUPPORT. The NSE commands of spec/43_mallet_noise.md on a legal target, and the procedures
behind them: the tuning of the Filter (R174) and the sample drawn from `RNGIN` (R176). -/

namespace Sys2Proof.Machine

/-! ### The tuning of the Filter (R174, R179) -/

theorem filterActiveFlag_eq (mode : FMode) (f : Fx) :
    filterActiveFlag mode f =
      !((mode == .lp && decide ((fxOfInt 20000).toInt ≤ f.toInt)) ||
        (mode == .hp && decide (f.toInt ≤ (fxOfInt 20).toInt))) := by
  unfold filterActiveFlag
  rw [Bool.decide_and, Bool.decide_and]
  rfl

/-- The Filter tuned by `nse_init_filter`, by the mode. -/
theorem nseInitFilter_flt (u : Noise) :
    (nseInitFilter u).flt =
      if u.mode = .bp then fltBpProc u.flt u.srate (nseFreq u) (nseRes u)
      else if u.mode = .hp then fltHpProc u.flt u.srate (nseFreq u) (nseRes u)
      else fltLpProc u.flt u.srate (nseFreq u) (nseRes u) := by
  unfold nseInitFilter
  cases u.mode <;> rfl

theorem nseInitFilter_eq (u : Noise) :
    nseInitFilter u =
      { u with
        filterActive := filterActiveFlag u.mode (nseFreq u), flt := (nseInitFilter u).flt } := rfl

/-- A value limited from below and then from above is between the limits. -/
theorem toInt_fxMin_fxMax_bounds (x : Fx) {lo hi : Fx} (h : lo.toInt ≤ hi.toInt) :
    lo.toInt ≤ (fxMin (fxMax x lo) hi).toInt ∧ (fxMin (fxMax x lo) hi).toInt ≤ hi.toInt := by
  rw [toInt_fxMin, toInt_fxMax]
  omega

theorem nseFreq_bounds (u : Noise) :
    (fxOfInt 20).toInt ≤ (nseFreq u).toInt ∧ (nseFreq u).toInt ≤ (fxOfInt 20000).toInt :=
  toInt_fxMin_fxMax_bounds _ (by decide)

theorem nseRes_bounds (u : Noise) :
    c0707.toInt ≤ (nseRes u).toInt ∧ (nseRes u).toInt ≤ (fxOfInt 4).toInt :=
  toInt_fxMin_fxMax_bounds _ (by decide)

/-- Settles O42: the frequency and the resonance are those of the model, which the clamps bound,
and the Filter is known mode by mode. -/
theorem noiseFilterClamps : Obligations.NoiseFilterClamps := by
  intro n f res hf hres
  have hfreq : f = nseFreq n := hf
  have hq : res = nseRes n := hres
  obtain ⟨flo, fhi⟩ := nseFreq_bounds n
  obtain ⟨qlo, qhi⟩ := nseRes_bounds n
  rw [hfreq, hq]
  refine ⟨flo, fhi, qlo, qhi, ?_⟩
  rw [nseInitFilter_eq, filterActiveFlag_eq, nseInitFilter_flt]

/-! ### The draw (R176) -/

theorem nseClampDraw_bounds (r : Fx) :
    -fxOne.toInt ≤ (nseClampDraw r).toInt ∧ (nseClampDraw r).toInt ≤ fxOne.toInt - 1 := by
  have hneg : (fxOfInt (-1)).toInt = -fxOne.toInt := by decide
  have htop : (0xFFFFFFFFFFFFFFFF#128 : Fx).toInt = fxOne.toInt - 1 := by decide
  have hone := toInt_fxOne
  rw [nseClampDraw, toInt_fxMax, toInt_fxMin, hneg, htop]
  omega

section
variable {u : Noise}

theorem nseProcess_of_off (h : u.env.state = .off) (rng : List Word) :
    nseProcess u rng = some (u, 0#128, rng) := by
  rcases nseProcess_cases u rng with ⟨-, hon, -⟩ | ⟨hp, -⟩ | ⟨_, _, -, hon, -⟩
  · exact absurd h hon
  · exact hp
  · exact absurd h hon

theorem nseProcess_nil_of_on (h : u.env.state ≠ .off) : nseProcess u [] = none := by
  rcases nseProcess_cases u [] with ⟨hp, -, -⟩ | ⟨-, hoff⟩ | ⟨_, _, hdraw, -, -⟩
  · exact hp
  · exact absurd hoff h
  · cases hdraw

theorem nseProcess_cons_of_on (h : u.env.state ≠ .off) (r : Word) (rest : List Word) :
    nseProcess u (r :: rest) = some ((nseSample u r).1, (nseSample u r).2, rest) := by
  rcases nseProcess_cases u (r :: rest) with ⟨-, -, hnil⟩ | ⟨-, hoff⟩ | ⟨_, _, hdraw, -, hp⟩
  · cases hnil
  · exact absurd hoff h
  · cases hdraw
    exact hp

end

/-! ### A command on the Noise of a voice -/

/-- The one legal selector of the NSE rows names the Noise (R82, R84). -/
theorem selNoise_wf {nv : Nat} {t : Target} (h : t.wf nv [0x03#8] = true) :
    selNoise t.u = some () := by
  obtain ⟨-, hu, -, -⟩ := (Target.wf_iff nv [0x03#8] t).1 h
  rw [List.mem_singleton.1 hu]
  rfl

section
variable {t : Target} {s : State}

/-- On a legal target `NSE.PROC` waits where `nse_process` has no word to draw. -/
theorem exec_nseProc_wait (h : t.wf s.nv [0x03#8] = true)
    (hp : nseProcess (voiceOf s t).noise s.rngIn = none) :
    exec (.nseProc t) s = .fault .rngWait := by
  simp only [exec, execNseProc, checkTarget_wf selNoise _ _ t () h (selNoise_wf h), hp]

/-- On a legal target `NSE.PROC` replaces the Noise it addresses and takes the words that
`nse_process` has drawn. -/
theorem exec_nseProc_next (h : t.wf s.nv [0x03#8] = true) {n : Noise} {x : Fx} {rest : List Word}
    (hp : nseProcess (voiceOf s t).noise s.rngIn = some (n, x, rest)) :
    exec (.nseProc t) s = .next (respond .ok [x]
      { withVoice s t ((voiceOf s t).setNoise n) with rngIn := rest }) := by
  simp only [exec, execNseProc, checkTarget_wf selNoise _ _ t () h (selNoise_wf h), hp, complete]

/-- An NSE command that draws nothing replaces the Noise it addresses and answers `OK`. -/
theorem atVoice_selNoise_wf (f : Noise → Noise) (h : t.wf s.nv [0x03#8] = true) :
    atVoice selNoise t s (fun _ v => (v.setNoise (f v.noise), [])) =
      .next (respond .ok [] (withVoice s t ((voiceOf s t).setNoise (f (voiceOf s t).noise)))) :=
  atVoice_wf selNoise [0x03#8] t s _ () h (selNoise_wf h)

theorem exec_nseInit_wf (srate mode freq q att dec sus rel velFreq velQ : Word)
    (h : t.wf s.nv [0x03#8] = true) :
    exec (.nseInit t srate mode freq q att dec sus rel velFreq velQ) s =
      .next (respond .ok [] (withVoice s t ((voiceOf s t).setNoise
        (nseInitProc (voiceOf s t).noise srate (opFMode mode) freq q att dec sus rel
          velFreq velQ)))) :=
  atVoice_selNoise_wf
    (fun n => nseInitProc n srate (opFMode mode) freq q att dec sus rel velFreq velQ) h

theorem exec_nseAtk_wf (vel : Word) (h : t.wf s.nv [0x03#8] = true) :
    exec (.nseAtk t vel) s = .next (respond .ok [] (withVoice s t
      ((voiceOf s t).setNoise (nseAttack (voiceOf s t).noise vel)))) :=
  atVoice_selNoise_wf (fun n => nseAttack n vel) h

theorem exec_nseRel_wf (h : t.wf s.nv [0x03#8] = true) :
    exec (.nseRel t) s = .next (respond .ok [] (withVoice s t
      ((voiceOf s t).setNoise (nseRelease (voiceOf s t).noise)))) :=
  atVoice_selNoise_wf nseRelease h

theorem exec_nseClr_wf (h : t.wf s.nv [0x03#8] = true) :
    exec (.nseClr t) s = .next (respond .ok [] (withVoice s t
      ((voiceOf s t).setNoise (nseClear (voiceOf s t).noise)))) :=
  atVoice_selNoise_wf nseClear h

end

/-- An `FMODE` operand compared as a word (R83). -/
theorem opFMode_eq (w : Word) :
    opFMode w = if w = 1#128 then .bp else if w = 2#128 then .hp else .lp := by
  have hone : sint w = 1 ↔ w = 1#128 := BitVec.toInt_inj (y := 1#128)
  have htwo : sint w = 2 ↔ w = 2#128 := BitVec.toInt_inj (y := 2#128)
  simp only [opFMode, hone, htwo]

/-! ### The statements -/

/-- Settles O41: an `Off` Envelope draws nothing; any other draws the oldest word, or waits for
one. -/
theorem noiseProcDraws : Obligations.NoiseProcDraws := by
  rintro s t _ hwf rfl
  refine ⟨fun hoff => ?off, fun hon hempty => ?wait, ?draw⟩
  case off => exact exec_nseProc_next hwf (nseProcess_of_off hoff s.rngIn)
  case wait =>
    apply exec_nseProc_wait hwf
    rw [hempty, nseProcess_nil_of_on hon]
  case draw =>
    rintro r rest c f x hon hdraw hc rfl rfl
    have hclamp : c = nseClampDraw r := hc
    have hp : nseProcess (voiceOf s t).noise s.rngIn =
        some ((nseSample (voiceOf s t).noise r).1, (nseSample (voiceOf s t).noise r).2, rest) := by
      rw [hdraw, nseProcess_cons_of_on hon]
    obtain ⟨lo, hi⟩ := nseClampDraw_bounds r
    rw [hclamp]
    exact ⟨lo, hi, exec_nseProc_next hwf hp⟩

/-- Settles O40: each command is the shared rule for an NSE command on a legal target. -/
theorem noiseParameterCommands : Obligations.NoiseParameterCommands := by
  rintro s t srate mode freq q att dec sus rel velFreq velQ vel _ _ _ hwf rfl rfl rfl
  refine ⟨?init, exec_nseAtk_wf vel hwf, exec_nseRel_wf hwf, exec_nseClr_wf hwf⟩
  case init =>
    rw [← opFMode_eq]
    exact exec_nseInit_wf srate mode freq q att dec sus rel velFreq velQ hwf

end Sys2Proof.Machine
end

section
/-! SUPPORT. The PRT commands of spec/44_partial.md on a legal target, and the procedures behind
them: the coefficients (R187), the boundary at a ratio of one (R191) and the recurrence (R188). -/

namespace Sys2Proof.Machine

/-! ### A command on a Partial -/

theorem selPart_partCode (sd : Side) : selPart (partCode sd) = some sd := by
  cases sd <;> rfl

/-- The selector of a side names the Partials of that side (R82, R84). -/
theorem selPart_wf {nv : Nat} {t : Target} {sd : Side} (h : t.wf nv [partCode sd] = true) :
    selPart t.u = some sd := by
  obtain ⟨-, hu, -, -⟩ := (Target.wf_iff nv [partCode sd] t).1 h
  rw [List.mem_singleton.1 hu]
  exact selPart_partCode sd

section
variable {t : Target} {s : State} {sd : Side}

/-- A PRT command on a legal target replaces the Partial it addresses and answers `OK`. -/
theorem atPartial_wf (f : Partial → Partial × List Word) (h : t.wf s.nv [partCode sd] = true) :
    atPartial t s f = .next (respond .ok (f (partialOf s t sd)).2
      (withVoice s t ((voiceOf s t).setPart sd t.k.toNat (f (partialOf s t sd)).1))) :=
  atVoice_wf selPart [partCode sd] t s _ sd h (selPart_wf h)

theorem exec_prtUpd_wf (f0 ratio ratioMax vel rel : Word)
    (h : t.wf s.nv [partCode sd] = true) :
    exec (.prtUpd t f0 ratio ratioMax vel rel) s = .next (respond .ok [] (withVoice s t
      ((voiceOf s t).setPart sd t.k.toNat
        (prtUpdate t.k.toNat (partialOf s t sd) f0 ratio ratioMax vel (opBool rel))))) :=
  atPartial_wf (fun u => (prtUpdate t.k.toNat u f0 ratio ratioMax vel (opBool rel), [])) h

theorem exec_prtProc_wf (x : V4) (h : t.wf s.nv [partCode sd] = true) :
    exec (.prtProc t x.l0 x.l1 x.l2 x.l3) s =
      .next (respond .ok (prtOut (partialOf s t sd) x).words (withVoice s t
        ((voiceOf s t).setPart sd t.k.toNat (prtProcess (partialOf s t sd) x)))) :=
  atPartial_wf (fun u => (prtProcess u x, (prtOut u x).words)) h

theorem exec_prtClr_wf (h : t.wf s.nv [partCode sd] = true) :
    exec (.prtClr t) s = .next (respond .ok [] (withVoice s t
      ((voiceOf s t).setPart sd t.k.toNat (prtClear (partialOf s t sd))))) :=
  atPartial_wf (fun u => (prtClear u, [])) h

end

/-! ### The recurrence (R188) -/

/-- Each lane of the output is the tap of that lane alone. -/
theorem prtOut_lane (u : Partial) (x : V4) (l : Nat) :
    (prtOut u x).lane l = prtTap u (x.lane l) (u.x2.lane l) (u.y1.lane l) (u.y2.lane l) :=
  match l with
  | 0 | 1 | 2 | _ + 3 => rfl

theorem V4.lane_zero (l : Nat) : V4.zero.lane l = 0#128 :=
  match l with
  | 0 | 1 | 2 | _ + 3 => rfl

/-- With the inert set every product of the tap is 0 and the divisor is 1 (R186). -/
theorem prtTap_of_inert {u : Partial} (ha0 : u.a0 = fxOne) (ha1 : u.a1 = 0#128)
    (ha2 : u.a2 = 0#128) (hb0 : u.b0 = 0#128) (hb2 : u.b2 = 0#128) (x x2 y1 y2 : Fx) :
    prtTap u x x2 y1 y2 = 0#128 := by
  have hdot (p q r v : Int) : fxDot [(0, p), (0, q), (-0, r), (-0, v)] = 0#128 := by
    simp only [fxDot, List.map_cons, List.map_nil, neg_zero, zero_mul]
    decide
  rw [prtTap, ha0, ha1, ha2, hb0, hb2, fxDiv_one]
  exact hdot _ _ _ _

/-- Settles O44: the output is known lane by lane, and each lane of an inert Partial is 0. -/
theorem partialSampleAndClear : Obligations.PartialSampleAndClear := by
  rintro s t sd x0 x1 x2 x3 _ _ y hwf rfl rfl hy
  have hout : y = prtOut (partialOf s t sd) ⟨x0, x1, x2, x3⟩ :=
    V4.eq_of_lane_eq fun l hl => (hy l hl).trans (prtOut_lane _ _ l).symm
  subst hout
  refine ⟨exec_prtProc_wf ⟨x0, x1, x2, x3⟩ hwf, fun ha0 ha1 ha2 hb0 hb2 => ?inert,
    exec_prtClr_wf hwf⟩
  case inert =>
    refine V4.eq_of_lane_eq fun l _ => ?_
    rw [prtOut_lane, prtTap_of_inert ha0 ha1 ha2 hb0 hb2, V4.lane_zero]

/-! ### The coefficients (R187) -/

/-- The decay time with its release flag as an operand word (R83, R190). -/
theorem modDecay_opBool (decay vel velDecay rel : Fx) (w : Word) :
    modDecay decay vel velDecay rel (opBool w) =
      if w = 0#128 then modDecay decay vel velDecay rel false
      else fxMul (modDecay decay vel velDecay rel false) rel := by
  by_cases hw : w = 0#128
  · rw [if_pos hw, hw]
    rfl
  · rw [if_neg hw, opBool, bne_iff_ne.2 hw]
    rfl

theorem prtSilent_iff (u : Partial) (fk dk : Fx) :
    prtSilent u fk dk = true ↔
      (prtNyquist u.srate).toInt ≤ fk.toInt ∨ fk.toInt < (fxOfInt 20).toInt ∨ dk.toInt ≤ 0 := by
  simp only [prtSilent, Bool.or_eq_true, decide_eq_true_eq, or_assoc]
  rfl

section
variable {u : Partial} {f0 ratio ratioMax vel fk dk fmax dk2 : Fx} {isRelease : Bool}

/-- The two tests of `prt_update`, before and after the damping, as one: where either holds the
Partial is inert, and else its coefficients are assembled. -/
theorem prtUpdate_eq (i : Nat) (hfk : fk = prtFreq u f0 ratio vel)
    (hdk : dk = modDecay u.decay vel u.velDecay u.rel isRelease)
    (hfmax : fmax = prtFreqMax u f0 ratio ratioMax vel)
    (hdk2 : dk2 = prtDamped u f0 fk fmax dk) :
    prtUpdate i u f0 ratio ratioMax vel isRelease =
      if (prtNyquist u.srate).toInt ≤ fk.toInt ∨ fk.toInt < (fxOfInt 20).toInt ∨
          dk.toInt ≤ 0 ∨ dk2.toInt ≤ 0 then prtInert u
      else prtAssemble u fk dk2 (prtToneGain u f0 fk fmax) (prtAmp i u vel) := by
  have hsplit : ((prtNyquist u.srate).toInt ≤ fk.toInt ∨ fk.toInt < (fxOfInt 20).toInt ∨
      dk.toInt ≤ 0 ∨ dk2.toInt ≤ 0) ↔ (prtSilent u fk dk = true ∨ fxLe dk2 0#128) := by
    rw [prtSilent_iff, or_assoc, or_assoc]
    rfl
  subst hfk hdk hfmax hdk2
  rw [if_congr hsplit rfl rfl, ite_or]
  rfl

end

/-! ### The corner case of R187 and the boundary of R191 -/

/-- With `ratio` = 1 the warping vanishes, whatever `NUM` gives for `inharm`. -/
theorem prtWarp_ratio_one (u : Partial) (vel : Fx) : prtWarp u fxOne vel = fxOne := by
  simp only [prtWarp, fxSub_self, fxMul_zero, fxAdd_zero, numSqrt_one]

theorem prtFreq_ratio_one (u : Partial) (f0 vel : Fx) : prtFreq u f0 fxOne vel = f0 := by
  rw [prtFreq, prtWarp_ratio_one, fxMul_one, fxMul_one]

/-- A `decay` of 1 that the velocity does not move is 1 s. -/
theorem modDecay_one (vel rel : Fx) : modDecay fxOne vel 0#128 rel false = fxOne := by
  have hclamp : fxMax 0#128 (fxMin (fxOfInt 100) fxOne) = fxOne := by decide
  simpa [modDecay, fxMul_comm 0#128] using hclamp

/-- Without damping a Partial at `f0` keeps its decay time. -/
theorem prtDamped_of_damp_zero {u : Partial} (hdamp : u.damp = 0#128) {f0 : Fx}
    (hf0 : f0 ≠ 0#128) (fmax dk : Fx) : prtDamped u f0 f0 fmax dk = dk := by
  have hle : fxLe u.damp 0#128 := hdamp ▸ le_rfl
  rw [prtDamped, if_pos hle, fxDiv_self hf0, hdamp, fxMul_zero, numPow_one_zero, fxDiv_one]

/-- At the position 0 every mode has a node. -/
theorem prtAmp_of_hit_zero {u : Partial} (hhit : u.hit = 0#128) (hvel : u.velHit = 0#128)
    (i : Nat) (vel : Fx) : prtAmp i u vel = 0#128 := by
  have hpos : fxMin c05 0#128 = 0#128 := by decide
  have habs : fxAbs 0#128 = 0#128 := by decide
  rw [prtAmp, hhit, hvel, fxMul_comm 0#128 vel, fxMul_zero, fxDiv_zero_left, fxAdd_zero, hpos,
    fxMul_zero, numSin_zero, habs, fxMul_zero]

theorem prtNyquist_48000 : prtNyquist (fxOfInt 48000) = fxOfInt 23040 := by decide

theorem prtNyquist_44100 : prtNyquist (fxOfInt 44100) = fxOfInt 21168 := by decide

/-- Settles O43: the lines of R187 are the model's procedures, one by one, and each corner is a
fact about the procedure of its line. -/
theorem partialUpdateCommand : Obligations.PartialUpdateCommand := by
  rintro s t sd f0 ratio ratioMax vel rel u _ ik fk dk0 dk fmax alpha dk2 tone amp hwf hu rfl
    hik hfk hdk0 hdk hfmax halpha hdk2 htone hamp
  have hik : ik = prtWarp u ratio vel := hik
  have hfk : fk = prtFreq u f0 ratio vel := by rw [hfk, hik]; rfl
  have hdk0 : dk0 = modDecay u.decay vel u.velDecay u.rel false := hdk0
  have hdk : dk = modDecay u.decay vel u.velDecay u.rel (opBool rel) := by
    rw [hdk, hdk0, modDecay_opBool]
  have hfmax : fmax = prtFreqMax u f0 ratio ratioMax vel := by rw [hfmax, hik]; rfl
  have hdk2 : dk2 = prtDamped u f0 fk fmax dk := hdk2
  have htone : tone = prtToneGain u f0 fk fmax := htone
  have hamp : amp = prtAmp t.k.toNat u vel := hamp
  refine ⟨?update, fun hhit hvel => ?silentHit, fun hratio => ?warp,
    fun hratio hf0 hdecay hvel hdamp hrel => ?decayTimes,
    fun hsr => hsr ▸ prtNyquist_48000, fun hsr => hsr ▸ prtNyquist_44100⟩
  case update =>
    rw [exec_prtUpd_wf f0 ratio ratioMax vel rel hwf, ← hu,
      prtUpdate_eq t.k.toNat hfk hdk hfmax hdk2, ← htone, ← hamp, halpha]
    rfl
  case silentHit =>
    have hneg : fxNeg 0#128 = 0#128 := by decide
    have hamp0 : amp = 0#128 := hamp.trans (prtAmp_of_hit_zero hhit hvel _ _)
    rw [hamp0, fxMul_zero]
    exact ⟨rfl, rfl, hneg⟩
  case warp =>
    rw [hik, hfk, hratio]
    exact ⟨prtWarp_ratio_one u vel, prtFreq_ratio_one u f0 vel⟩
  case decayTimes =>
    have hdk1 : dk = fxOne := by
      rw [hdk, hdecay, hvel, hrel]
      exact modDecay_one vel u.rel
    have hfk0 : fk = f0 := by rw [hfk, hratio, prtFreq_ratio_one]
    rw [hdk2, hdk1, hfk0]
    exact ⟨rfl, prtDamped_of_damp_zero hdamp hf0 fmax fxOne⟩

end Sys2Proof.Machine
end

section
/-! SUPPORT. The WGD commands of spec/45_waveguide.md on a legal target, and the procedures behind
them: the tube length and the pointers (R200, R202), one step of the delay line (R203) and the octave
property (R205). -/

namespace Sys2Proof.Machine

/-! ### A command on a Waveguide -/

theorem selWg_wgCode (sd : Side) : selWg (wgCode sd) = some sd := by
  cases sd <;> rfl

/-- The selector of a side names the Waveguide of that side (R82, R84). -/
theorem selWg_wf {nv : Nat} {t : Target} {sd : Side} (h : t.wf nv [wgCode sd] = true) :
    selWg t.u = some sd := by
  obtain ⟨-, hu, -, -⟩ := (Target.wf_iff nv [wgCode sd] t).1 h
  rw [List.mem_singleton.1 hu]
  exact selWg_wgCode sd

section
variable {t : Target} {s : State} {sd : Side}

/-- A WGD command on a legal target replaces the Waveguide it addresses and answers `OK`. -/
theorem atWaveguide_wf (f : Waveguide → Waveguide × List Word)
    (h : t.wf s.nv [wgCode sd] = true) :
    atWaveguide t s f = .next (respond .ok (f ((voiceOf s t).res sd).wg).2
      (withVoice s t ((voiceOf s t).setWg sd (f ((voiceOf s t).res sd).wg).1))) :=
  atVoice_wf selWg [wgCode sd] t s _ sd h (selWg_wf h)

theorem exec_wgdUpd_wf (f0 vel rel : Word) (h : t.wf s.nv [wgCode sd] = true) :
    exec (.wgdUpd t f0 vel rel) s = .next (respond .ok [] (withVoice s t
      ((voiceOf s t).setWg sd
        (wgdUpdate s.params.wgLen ((voiceOf s t).res sd).wg f0 vel (opBool rel))))) :=
  atWaveguide_wf (fun u => (wgdUpdate s.params.wgLen u f0 vel (opBool rel), [])) h

theorem exec_wgdProc_wf (x : V4) (h : t.wf s.nv [wgCode sd] = true) :
    exec (.wgdProc t x.l0 x.l1 x.l2 x.l3) s =
      .next (respond .ok (wgdOut ((voiceOf s t).res sd).wg).words (withVoice s t
        ((voiceOf s t).setWg sd (wgdProcess s.params.wgLen ((voiceOf s t).res sd).wg x)))) :=
  atWaveguide_wf (fun u => (wgdProcess s.params.wgLen u x, (wgdOut u).words)) h

theorem exec_wgdClr_wf (h : t.wf s.nv [wgCode sd] = true) :
    exec (.wgdClr t) s = .next (respond .ok [] (withVoice s t
      ((voiceOf s t).setWg sd (wgdClear ((voiceOf s t).res sd).wg)))) :=
  atWaveguide_wf (fun u => (wgdClear u, [])) h

end

/-! ### The tube length and the pointers (R200, R202) -/

theorem clampInt_one_toNat {n : Nat} (hn : 1 ≤ n) (k : Nat) :
    (clampInt k 1 n).toNat = max 1 (min n k) := by
  unfold clampInt
  split
  · omega
  · split <;> omega

section
variable {n : Nat} (hn : 2 ≤ n ∧ n ≤ 2147483648)
include hn

/-- The integer part of `srate / f0`, halved for a closed tube, within `1 .. WG_LEN`. -/
theorem wgdTubeLen_eq (u : Waveguide) (f0 : Fx) :
    wgdTubeLen n u f0 = max 1 (min n (if u.isClosed then (fxFloorU32 (fxDiv u.srate f0)).toNat / 2
      else (fxFloorU32 (fxDiv u.srate f0)).toNat)) :=
  clampInt_one_toNat (by omega) _

/-- A tube length fits the 32-bit register. -/
theorem wgdUpdate_tlen (u : Waveguide) (f0 vel : Fx) (isRelease : Bool) :
    (wgdUpdate n u f0 vel isRelease).tlen.toNat = wgdTubeLen n u f0 := by
  have hle := wgdTubeLen_le hn u f0
  exact (BitVec.toNat_ofNat _ 32).trans (Nat.mod_eq_of_lt (by omega))

/-- The read pointer lies behind the write pointer by the tube length. -/
theorem wgdUpdate_readPtr (u : Waveguide) (f0 vel : Fx) (isRelease : Bool) :
    ((wgdUpdate n u f0 vel isRelease).readPtr.toNat : Int) =
      ((u.writePtr.toNat : Int) - wgdTubeLen n u f0) % n := by
  have hpos : (0 : Int) < n := by omega
  have hlt := Int.emod_lt_of_pos ((u.writePtr.toNat : Int) - wgdTubeLen n u f0) hpos
  exact toNat_ofInt_of_lt 32 (Int.emod_nonneg _ hpos.ne') (by omega)

theorem wgdAdvance_toNat (p : U32) : (wgdAdvance n p).toNat = (p.toNat + 1) % n := by
  have hlt := Nat.mod_lt (p.toNat + 1) (show 0 < n by omega)
  exact (BitVec.toNat_ofNat _ 32).trans (Nat.mod_eq_of_lt (by omega))

end

/-- The pseudocode of R202 is the model's decay. -/
theorem wgdTubeDecay_eq (u : Waveguide) (f0 dk : Fx) :
    wgdTubeDecay u f0 dk = if 0 < dk.toInt then
      numExp (fxNeg (fxDiv (fxMul fxPi (fxOfInt 125000)) (fxMul (fxMul f0 u.srate) dk)))
      else 0#128 := rfl

/-- Settles O45: the updated tube register by register; the emptied buffer lists no word. -/
theorem waveguideUpdateAndClear : Obligations.WaveguideUpdateAndClear := by
  rintro s t sd f0 vel rel w n dk hwf hparams rfl hn hdk
  have hlen := (wgdTubeLen_eq hparams ((voiceOf s t).res sd).wg f0).trans hn.symm
  refine ⟨⟨_, exec_wgdUpd_wf f0 vel rel hwf, ?tlen, ?readPtr, ?decay, rfl⟩,
    _, exec_wgdClr_wf hwf, fun _ => rfl, rfl⟩
  case tlen => rw [wgdUpdate_tlen hparams, hlen]
  case readPtr => rw [wgdUpdate_readPtr hparams, hlen]
  case decay =>
    rw [hdk]
    exact wgdTubeDecay_eq _ f0 _

/-! ### One step of the delay line (R203) -/

theorem V4.lane_map (f : Fx → Fx) (p : V4) (l : Nat) : (p.map f).lane l = f (p.lane l) :=
  match l with
  | 0 | 1 | 2 | _ + 3 => rfl

theorem V4.lane_map2 (f : Fx → Fx → Fx) (p q : V4) (l : Nat) :
    (V4.map2 f p q).lane l = f (p.lane l) (q.lane l) :=
  match l with
  | 0 | 1 | 2 | _ + 3 => rfl

theorem V4.lane_map3 (f : Fx → Fx → Fx → Fx) (p q r : V4) (l : Nat) :
    (V4.map3 f p q r).lane l = f (p.lane l) (q.lane l) (r.lane l) :=
  match l with
  | 0 | 1 | 2 | _ + 3 => rfl

/-- Lane `l` of entry `a` is the word at address `4 a + l` (R30). -/
theorem wgRead_lane (buf : Memory) (a : Nat) {l : Nat} (hl : l < 4) :
    (wgRead buf a).lane l = buf.read (4 * a + l) :=
  match l, hl with
  | 0, _ | 1, _ | 2, _ | 3, _ => rfl

theorem wgdLowpass_lane (u : Waveguide) {l : Nat} (hl : l < 4) :
    (wgdLowpass u).lane l =
      wgdTap (u.radius.lane l) (u.buf.read (4 * u.readPtr.toNat + l)) (u.yPrev.lane l) := by
  rw [wgdLowpass, V4.lane_map3, wgRead_lane _ _ hl]

theorem wgdOut_lane (u : Waveguide) (l : Nat) :
    (wgdOut u).lane l = fxMul ((wgdLowpass u).lane l) u.tubeDecay :=
  V4.lane_map _ _ l

/-- The entry at the old write pointer takes the input and the output, subtracted in a closed
tube. -/
theorem wgdProcess_read_written (n : Nat) {u : Waveguide} (h : u.buf.wf = true) (x : V4) {l : Nat}
    (hl : l < 4) :
    (wgdProcess n u x).buf.read (4 * u.writePtr.toNat + l) =
      if u.isClosed then fxSub (x.lane l) ((wgdOut u).lane l)
      else fxAdd (x.lane l) ((wgdOut u).lane l) := by
  rw [← wgRead_lane _ _ hl, wgdProcess, wgRead_wgWrite_same _ _ _ h, V4.lane_map2]
  split <;> rfl

/-- Every other entry keeps its words (spec/20_memory.md R74). -/
theorem wgdProcess_read_other (n : Nat) (u : Waveguide) (x : V4) {a : Nat}
    (h : a / 4 ≠ u.writePtr.toNat) : (wgdProcess n u x).buf.read a = u.buf.read a :=
  wgWrite_read_other _ _ _ _ h

/-- Settles O46: the lowpass and the output are known lane by lane, the buffer by its reads. -/
theorem waveguideSample : Obligations.WaveguideSample := by
  rintro s t sd x0 x1 x2 x3 w _ y d z hwf hinv hw rfl hy hd hz
  have ⟨hparams, _⟩ := hinv
  obtain ⟨-, -, -, -, -, hbuf, -⟩ := (hinv.voiceAt t.v.toNat).res sd
  rw [← hw] at hbuf
  have hlow : y = wgdLowpass w :=
    V4.eq_of_lane_eq fun l hl => (hy l hl).trans (wgdLowpass_lane w hl).symm
  have hout : d = wgdOut w :=
    V4.eq_of_lane_eq fun l hl => (hd l hl).trans (hlow ▸ (wgdOut_lane w l).symm)
  subst hlow hout
  refine ⟨wgdProcess s.params.wgLen w ⟨x0, x1, x2, x3⟩, ?response, fun l hl => ?written,
    fun a ha => wgdProcess_read_other _ w _ ha, wgdAdvance_toNat hparams _,
    wgdAdvance_toNat hparams _, rfl⟩
  case response =>
    subst hw
    exact exec_wgdProc_wf ⟨x0, x1, x2, x3⟩ hwf
  case written => rw [wgdProcess_read_written _ hbuf _ hl, hz l hl]

/-! ### The delay of a tube (R200) and the octave property (R205) -/

/-- The distance of two pointers as an integer remainder, without the offset that keeps the
difference of naturals from being cut off. -/
theorem pointerDistance_eq (p : Nat) {r n : Nat} (h : r ≤ n) :
    (((p + n - r) % n : Nat) : Int) = ((p : Int) - r) % n := by
  have hsub : ((p + n - r : Nat) : Int) = (p : Int) - r + n := by omega
  rw [Int.natCast_emod, hsub, Int.add_emod_right]

/-- Two pointers advanced by one modulo `n` keep their distance. -/
theorem advanced_distance (p r n : Nat) :
    ((((p + 1) % n : Nat) : Int) - ((r + 1) % n : Nat)) % n = ((p : Int) - r) % n := by
  push_cast
  rw [← Int.sub_emod, add_sub_add_right_eq_sub]

/-- Settles O47: both distances as integer remainders; the clamp is the identity on both lengths
under the premise of the octave property. -/
theorem waveguideDelayAndOctave : Obligations.WaveguideDelayAndOctave := by
  refine ⟨fun n w f0 vel rel h2 hmax hwp => ?update, fun n w x h2 hmax hwp hrp => ?sample,
    fun n w f0 vel rel hmax hlo hhi => ?octave⟩
  case update =>
    have hn : 2 ≤ n ∧ n ≤ 2147483648 := ⟨h2, hmax⟩
    have hread := wgdUpdate_readPtr hn w f0 vel rel
    have hlt := Int.emod_lt_of_pos ((w.writePtr.toNat : Int) - wgdTubeLen n w f0)
      (show (0 : Int) < n by omega)
    have hkept : (wgdUpdate n w f0 vel rel).writePtr = w.writePtr := rfl
    apply Int.ofNat_inj.1
    rw [pointerDistance_eq _ (by omega), hread, hkept, wgdUpdate_tlen hn, Int.sub_emod_emod,
      sub_sub_cancel, Int.natCast_emod]
  case sample =>
    have hn : 2 ≤ n ∧ n ≤ 2147483648 := ⟨h2, hmax⟩
    have hwrite : (wgdProcess n w x).writePtr.toNat = _ := wgdAdvance_toNat hn w.writePtr
    have hread : (wgdProcess n w x).readPtr.toNat = _ := wgdAdvance_toNat hn w.readPtr
    apply Int.ofNat_inj.1
    rw [hwrite, hread, pointerDistance_eq _ (Nat.mod_lt _ (by omega)).le,
      pointerDistance_eq _ hrp.le]
    exact advanced_distance _ _ n
  case octave =>
    have hn : 2 ≤ n ∧ n ≤ 2147483648 := ⟨hlo.trans hhi, hmax⟩
    rw [wgdUpdate_tlen hn, wgdUpdate_tlen hn, wgdTubeLen_eq hn, wgdTubeLen_eq hn, if_pos rfl,
      if_neg Bool.false_ne_true]
    dsimp only
    omega

end Sys2Proof.Machine
end

section
/-! SUPPORT. The RES commands of spec/46_resonator.md on a legal target, and the procedures behind
them: the post Filter and the shared parameters (R216, R217), the two variants (R215, R218), the
silence counter (R220) and the clear (R221). -/

namespace Sys2Proof.Machine

/-! ### A command on a Resonator -/

theorem selRes_resCode (sd : Side) : selRes (resCode sd) = some sd := by
  cases sd <;> rfl

/-- The selector of a side names the Resonator of that side (R82, R84). -/
theorem selRes_wf {nv : Nat} {t : Target} {sd : Side} (h : t.wf nv [resCode sd] = true) :
    selRes t.u = some sd := by
  obtain ⟨-, hu, -, -⟩ := (Target.wf_iff nv [resCode sd] t).1 h
  rw [List.mem_singleton.1 hu]
  exact selRes_resCode sd

section
variable {t : Target} {s : State} {sd : Side}

/-- A RES command on a legal target replaces the Resonator it addresses and answers `OK`. -/
theorem atResonator_wf (f : Resonator → Resonator × List Word)
    (h : t.wf s.nv [resCode sd] = true) :
    atResonator t s f = .next (respond .ok (f ((voiceOf s t).res sd)).2
      (withVoice s t ((voiceOf s t).setRes sd (f ((voiceOf s t).res sd)).1))) :=
  atVoice_wf selRes [resCode sd] t s _ sd h (selRes_wf h)

theorem exec_resSetp_wf (p : ResParams) {on model npartials : Word} (hon : p.on = opBool on)
    (hmodel : p.model = legalModel model) (hnpartials : p.npartials = legalNPartials npartials)
    (h : t.wf s.nv [resCode sd] = true) :
    exec (.resSetp t p.srate on model npartials p.decay p.damp p.tone p.hit p.rel p.inharm p.cut
        p.radius.l0 p.radius.l1 p.radius.l2 p.radius.l3 p.velDecay p.velHit p.velInharm) s =
      .next (respond .ok [] (withVoice s t
        ((voiceOf s t).setRes sd (resSetParams ((voiceOf s t).res sd) p)))) := by
  obtain ⟨⟩ := p
  subst hon hmodel hnpartials
  exact atResonator_wf (fun u => (resSetParams u _, [])) h

theorem exec_resAct_wf (h : t.wf s.nv [resCode sd] = true) :
    exec (.resAct t) s = .next (respond .ok [] (withVoice s t
      ((voiceOf s t).setRes sd (resActivate ((voiceOf s t).res sd))))) :=
  atResonator_wf (fun u => (resActivate u, [])) h

theorem exec_resUpd_wf (freq vel rel : Word) (model : List Word)
    (h : t.wf s.nv [resCode sd] = true) :
    exec (.resUpd t freq vel rel model) s = .next (respond .ok [] (withVoice s t
      ((voiceOf s t).setRes sd
        (resUpdate s.params.wgLen ((voiceOf s t).res sd) freq vel (opBool rel) model)))) :=
  atResonator_wf (fun u => (resUpdate s.params.wgLen u freq vel (opBool rel) model, [])) h

theorem exec_resProc_wf (x : V4) (h : t.wf s.nv [resCode sd] = true) :
    exec (.resProc t x.l0 x.l1 x.l2 x.l3) s =
      .next (respond .ok (resProcess s.params ((voiceOf s t).res sd) x).2.words (withVoice s t
        ((voiceOf s t).setRes sd (resProcess s.params ((voiceOf s t).res sd) x).1))) :=
  atResonator_wf (fun u => ((resProcess s.params u x).1, (resProcess s.params u x).2.words)) h

theorem exec_resClr_wf (h : t.wf s.nv [resCode sd] = true) :
    exec (.resClr t) s = .next (respond .ok [] (withVoice s t
      ((voiceOf s t).setRes sd (resClear ((voiceOf s t).res sd))))) :=
  atResonator_wf (fun u => (resClear u, [])) h

end

theorem Voice.setRes_self (v : Voice) (sd : Side) : v.setRes sd (v.res sd) = v := by
  cases sd <;> rfl

/-! ### The silence counter (R220) -/

theorem addSat32_toNat (c : U32) (n : Nat) :
    (addSat32 c n).toNat = min 4294967295 (c.toNat + n) :=
  (BitVec.toNat_ofNat _ 32).trans
    (Nat.mod_eq_of_lt ((Nat.min_le_left 4294967295 _).trans_lt (by decide)))

theorem loudLanes_eq_map (out inp : V4) :
    loudLanes out inp = [0, 1, 2, 3].map fun l => loudLane (out.lane l) (inp.lane l) := rfl

/-- The steps of one saturate together as their sum does. -/
theorem foldl_addSat32_toNat (loud : List Bool) (c : U32) :
    (loud.foldl (fun c l => if l then addSat32 c 1 else c) c).toNat =
      min 4294967295 (c.toNat + loud.countP id) := by
  induction loud generalizing c with
  | nil =>
    have hc : c.toNat < 2 ^ 32 := c.isLt
    rw [List.foldl_nil, List.countP_nil]
    omega
  | cons l loud ih =>
    rw [List.foldl_cons, ih, List.countP_cons]
    cases l
    · rfl
    · rw [if_pos rfl, addSat32_toNat, id_eq, if_pos rfl]
      omega

theorem loudLanes_any_iff (out inp : V4) :
    (loudLanes out inp).any id = true ↔
      ∃ l < 4, cSil.toInt < (fxAdd (fxAbs (out.lane l)) (fxAbs (inp.lane l))).toInt := by
  have hlanes (l : Nat) : l ∈ [0, 1, 2, 3] ↔ l < 4 := List.mem_range (n := 4)
  simp only [loudLanes_eq_map, List.any_map, List.any_eq_true, hlanes, Function.comp_apply, id_eq,
    loudLane, decide_eq_true_eq]

/-- Settles O51: the counter of the first mode is a fold over the lanes, that of the second a test
whether one of them is loud. -/
theorem silenceCounterModes : Obligations.SilenceCounterModes := by
  refine fun c out inp => ⟨?loudCounts, fun hloud => ?loudStep, fun hquiet => ?quietStep⟩
  case loudCounts =>
    rw [silenceNext, foldl_addSat32_toNat, loudLanes_eq_map, List.countP_map]
    rfl
  case loudStep =>
    rw [silenceNext, if_pos ((loudLanes_any_iff out inp).2 hloud)]
    rfl
  case quietStep =>
    have hnone : ¬(loudLanes out inp).any id = true := fun hany =>
      have ⟨l, hl, hlt⟩ := (loudLanes_any_iff out inp).1 hany
      (hquiet l hl).not_gt hlt
    rw [silenceNext, if_neg hnone, addSat32_toNat]

/-! ### The two variants (R215) -/

theorem resIsBank_iff (u : Resonator) : resIsBank u = true ↔ u.model.toNat < 7 := decide_eq_true_iff

theorem not_resIsBank_of_le {u : Resonator} (h : 7 ≤ u.model.toNat) : ¬resIsBank u = true :=
  fun hbank => ((resIsBank_iff u).1 hbank).not_ge h

theorem bankGet_bankMapBelow_of_lt (f : Nat → Partial → Partial) (b : Bank) {n i : Nat}
    (hi : i < 64) (h : i < n) : bankGet (bankMapBelow n f b) i = f i (bankGet b i) :=
  (bankGet_bankMapBelow n f b i hi).trans (if_pos h)

theorem bankGet_bankMapBelow_of_le (f : Nat → Partial → Partial) (b : Bank) {n i : Nat}
    (hi : i < 64) (h : n ≤ i) : bankGet (bankMapBelow n f b) i = bankGet b i :=
  (bankGet_bankMapBelow n f b i hi).trans (if_neg h.not_gt)

/-- The first `n` Partials of a bank are those of the rising indices below `n`. -/
theorem bank_take_eq_map (b : Bank) (n : Nat) :
    b.toList.take n = (List.range (min 64 n)).map (bankGet b) := by
  have hlen : b.toList.length = 64 := b.length_toList
  refine List.ext_getElem ?_ fun i hi _ => ?_
  · rw [List.length_take, List.length_map, List.length_range, hlen, min_comm]
  · have hib : i < b.toList.length := (List.length_take ▸ hi).trans_le (Nat.min_le_right _ _)
    rw [List.getElem_take, List.getElem_map, List.getElem_range, bankGet,
      List.getD_eq_getElem _ _ hib]

/-- The sum of R220 with its index written out. -/
theorem resBankOut_eq_foldl (u : Resonator) (x : V4) :
    resBankOut u x = (List.range (min 64 u.npartials.toNat)).foldl
      (fun acc i => V4.add acc (prtOut (bankGet u.parts i) x)) V4.zero := by
  rw [resBankOut, bank_take_eq_map, List.map_map, List.foldl_map]
  rfl

section
variable {u : Resonator}

theorem resActiveOut_of_bank (h : u.model.toNat < 7) (x : V4) :
    resActiveOut u x = resBankOut u x :=
  if_pos ((resIsBank_iff u).2 h)

theorem resActiveOut_of_waveguide (h : 7 ≤ u.model.toNat) (x : V4) :
    resActiveOut u x = wgdOut u.wg :=
  if_neg (not_resIsBank_of_le h)

theorem resStepVariant_of_bank (h : u.model.toNat < 7) (n : Nat) (x : V4) :
    resStepVariant n u x =
      { u with parts := bankMapBelow u.npartials.toNat (fun _ p => prtProcess p x) u.parts } :=
  if_pos ((resIsBank_iff u).2 h)

theorem resStepVariant_of_waveguide (h : 7 ≤ u.model.toNat) (n : Nat) (x : V4) :
    resStepVariant n u x = { u with wg := wgdProcess n u.wg x } :=
  if_neg (not_resIsBank_of_le h)

theorem resUpdate_of_bank (h : u.model.toNat < 7) (n : Nat) (freq vel : Fx) (isRelease : Bool)
    (model : List Fx) : resUpdate n u freq vel isRelease model =
      { u with
        parts := bankMapBelow u.npartials.toNat
          (fun i p => prtUpdate i p freq (model.getD i 0#128) (model.getD 63 0#128) vel isRelease)
          u.parts } :=
  if_pos ((resIsBank_iff u).2 h)

theorem resUpdate_of_waveguide (h : 7 ≤ u.model.toNat) (n : Nat) (freq vel : Fx)
    (isRelease : Bool) (model : List Fx) : resUpdate n u freq vel isRelease model =
      { u with wg := wgdUpdate n u.wg (fxMul (model.getD 0 0#128) freq) vel isRelease } :=
  if_neg (not_resIsBank_of_le h)

/-- One step of a variant moves the Partials and the Waveguide alone. -/
theorem resStepVariant_frame (n : Nat) (u : Resonator) (x : V4) :
    resStepVariant n u x =
      { u with parts := (resStepVariant n u x).parts, wg := (resStepVariant n u x).wg } := by
  unfold resStepVariant
  split <;> rfl

/-! ### One step of a Resonator (R220) -/

theorem resProcess_of_inactive (h : u.active = false) (p : Params) (x : V4) :
    resProcess p u x = (u, .zero) :=
  if_neg (ne_true_of_eq_false h)

theorem resProcess_of_active (h : u.active = true) (p : Params) (x : V4) {n : U32}
    (hn : n = silenceNext p.silenceMode u.silence (resActiveOut u x) x) :
    resProcess p u x = ({ resStepVariant p.wgLen u x with
      silence := n, active := !silenceReached n u.srate }, resActiveOut u x) := by
  subst hn
  exact if_pos h

/-- The Resonator stays active while the counter is below the sample rate. -/
theorem not_silenceReached (n : U32) (srate : Fx) :
    (!silenceReached n srate) = decide ((fxOfInt n.toNat).toInt < srate.toInt) := by
  rw [silenceReached, ← decide_not]
  exact decide_eq_decide.2 Int.not_le

end

/-- Settles O50: each variant moves by its own equation and leaves the other registers to the
frame of the step. -/
theorem resonatorSample : Obligations.ResonatorSample := by
  rintro s t sd x0 x1 x2 x3 r x hwf hr rfl
  have hexec := exec_resProc_wf ⟨x0, x1, x2, x3⟩ hwf
  rw [← hr] at hexec
  refine ⟨fun hinactive => ?inactive, fun hactive => ?active⟩
  case inactive =>
    rw [resProcess_of_inactive hinactive, hr, Voice.setRes_self] at hexec
    exact hexec
  case active =>
    rw [resProcess_of_active hactive s.params _ rfl] at hexec
    refine ⟨_, _, hexec, fun hbank => ?bank, fun hwg => ?waveguide, rfl,
      not_silenceReached _ _, ?frame⟩
    case bank =>
      rw [resStepVariant_of_bank hbank, resActiveOut_of_bank hbank]
      exact ⟨rfl, resBankOut_eq_foldl r _, fun _ => bankGet_bankMapBelow_of_lt _ _,
        fun _ => bankGet_bankMapBelow_of_le _ _⟩
    case waveguide =>
      rw [resStepVariant_of_waveguide hwg, resActiveOut_of_waveguide hwg]
      exact ⟨rfl, rfl, rfl⟩
    case frame =>
      rw [resStepVariant_frame]

/-! ### The parameters and the post Filter (R216, R217) -/

theorem legalModel_toNat (w : Word) : ((legalModel w).toNat : Int) = clampInt w.toInt 0 63 :=
  have ⟨hlo, hhi⟩ := clampInt_bounds (sint w) (show (0 : Int) ≤ 63 by decide)
  toNat_ofInt_of_lt 8 hlo (by omega)

theorem legalNPartials_toNat (w : Word) :
    ((legalNPartials w).toNat : Int) = clampInt w.toInt 0 64 :=
  have ⟨hlo, hhi⟩ := clampInt_bounds (sint w) (show (0 : Int) ≤ 64 by decide)
  toNat_ofInt_of_lt 8 hlo (by omega)

section
variable {u : Resonator}

/-- A negative `cut` tunes the post Filter as a low-pass. -/
theorem resTunePost_of_neg (h : u.cut.toInt < 0) :
    resTunePost u = fltLpProc u.post u.srate
      (resClampFreq (numExp (fxAdd cLn20000 (fxMul u.cut cLn1000)))) c0707 :=
  if_pos h

/-- A `cut` of 0 or above tunes it as a high-pass. -/
theorem resTunePost_of_nonneg (h : 0 ≤ u.cut.toInt) :
    resTunePost u = fltHpProc u.post u.srate
      (resClampFreq (numExp (fxAdd cLn20 (fxMul u.cut cLn1000)))) c0707 :=
  if_neg (Int.not_lt.2 h)

end

/-- Settles O48: the legalised operands as one record of parameters, which every owned unit
takes. -/
theorem resonatorParameters : Obligations.ResonatorParameters := by
  rintro s t sd srate on model npartials decay damp tone hit rel inharm cut rad0 rad1 rad2 rad3
    velDecay velHit velInharm r hwf hr
  have hexec := exec_resSetp_wf
    { srate := srate, on := opBool on, model := legalModel model
      npartials := legalNPartials npartials, decay := decay, damp := damp, tone := tone
      hit := hit, rel := rel, inharm := inharm, cut := cut, radius := ⟨rad0, rad1, rad2, rad3⟩
      velDecay := velDecay, velHit := velHit, velInharm := velInharm } rfl rfl rfl hwf
  rw [← hr] at hexec
  exact ⟨_, hexec, legalModel_toNat model, legalNPartials_toNat npartials,
    fun i hi => bankGet_bankMapBelow_of_lt _ _ hi hi, rfl, fun hneg => resTunePost_of_neg hneg,
    fun hnonneg => resTunePost_of_nonneg hnonneg, rfl⟩

/-! ### Activation, update and clear (R218, R219, R221) -/

/-- Settles O49: the update through the equation of the selected variant; the clear reaches all 64
Partials and leaves a buffer that lists no word. -/
theorem resonatorActivateUpdateClear : Obligations.ResonatorActivateUpdateClear := by
  intro s t sd freq vel rel model r hwf hr
  have hupd := exec_resUpd_wf freq vel rel model hwf
  have hclr := exec_resClr_wf hwf
  rw [← hr] at hupd hclr
  refine ⟨hr ▸ exec_resAct_wf hwf, fun hbank => ?bank, fun hwg => ?waveguide, _, hclr,
    fun i hi => bankGet_bankMapBelow_of_lt _ _ hi hi, fun _ => rfl, rfl, rfl, rfl⟩
  case bank =>
    rw [resUpdate_of_bank hbank] at hupd
    exact ⟨_, hupd, fun _ => bankGet_bankMapBelow_of_lt _ _,
      fun _ => bankGet_bankMapBelow_of_le _ _, rfl⟩
  case waveguide =>
    rw [resUpdate_of_waveguide hwg] at hupd
    exact hupd

end Sys2Proof.Machine
end

section
/-! SUPPORT. The coupling of R240 entry by entry: one pair moves one entry of each table, a row of
pairs folds into one entry of table A, a column into one entry of table B. -/

namespace Sys2Proof.Machine

/-! ### One pair of the coupling (R240) -/

/-- An entry of table A after one pair: within the threshold it goes up if A is the higher side. -/
def coupleEntryA (thresh d r x : Fx) : Fx :=
  if thresh.toInt < (fxAbs d).toInt then x
  else if 0 ≤ d.toInt then fxAdd x r else fxSub x r

/-- An entry of table B after one pair: it moves against the entry of table A. -/
def coupleEntryB (thresh d r y : Fx) : Fx :=
  if thresh.toInt < (fxAbs d).toInt then y
  else if 0 ≤ d.toInt then fxSub y r else fxAdd y r

theorem set_getD_self (l : List Fx) (i : Nat) : l.set i (l.getD i 0#128) = l := by
  by_cases hi : i < l.length
  · rw [List.getD_eq_getElem _ _ hi, List.set_getElem_self]
  · exact List.set_eq_of_length_le (Nat.le_of_not_lt hi)

/-- One turn of the double loop rewrites one entry of each table. -/
theorem voiCouplePair_eq {thresh freq dy fai fbj d r : Fx} (hd : d = fxSub fai fbj)
    (hr : r = voiShift freq dy d) (i j : Nat) (tabs : List Fx × List Fx) :
    voiCouplePair thresh freq dy fai fbj i j tabs =
      (tabs.1.set i (coupleEntryA thresh d r (tabs.1.getD i 0#128)),
        tabs.2.set j (coupleEntryB thresh d r (tabs.2.getD j 0#128))) := by
  subst hr hd
  by_cases hfar : thresh.toInt < (fxAbs (fxSub fai fbj)).toInt
  · simp only [voiCouplePair, fxLe, coupleEntryA, coupleEntryB, if_pos hfar,
      if_neg (Int.not_le.2 hfar), set_getD_self]
  · by_cases hsign : 0 ≤ (fxSub fai fbj).toInt
    · simp [voiCouplePair, coupleEntryA, coupleEntryB, hfar, hsign, Int.not_lt.1 hfar]
    · simp [voiCouplePair, coupleEntryA, coupleEntryB, hfar, hsign, Int.not_lt.1 hfar]

theorem getD_set (l : List Fx) {i : Nat} (k : Nat) (x : Fx) (hi : i < l.length) :
    (l.set i x).getD k 0#128 = if k = i then x else l.getD k 0#128 := by
  rw [List.getD_eq_getElem?_getD, List.getElem?_set, List.getD_eq_getElem?_getD]
  by_cases hk : i = k
  · simp [hk, hk ▸ hi]
  · simp [hk, Ne.symm hk]

/-! ### Rows and columns of pairs -/

section
variable (thresh : Fx) (d r : Nat → Nat → Fx)

/-- The pair `(i, j)` with its difference and its shift. -/
def couplePair (i j : Nat) (tabs : List Fx × List Fx) : List Fx × List Fx :=
  (tabs.1.set i (coupleEntryA thresh (d i j) (r i j) (tabs.1.getD i 0#128)),
    tabs.2.set j (coupleEntryB thresh (d i j) (r i j) (tabs.2.getD j 0#128)))

/-- The first `n` pairs of row `i`. -/
def coupleRow (n i : Nat) (tabs : List Fx × List Fx) : List Fx × List Fx :=
  (List.range n).foldl (fun acc j => couplePair thresh d r i j acc) tabs

/-- The first `n` rows. -/
def coupleRows (n : Nat) (tabs : List Fx × List Fx) : List Fx × List Fx :=
  (List.range n).foldl (fun acc i => coupleRow thresh d r 64 i acc) tabs

/-- Entry `i` of table A after the first `n` pairs of its row. -/
def rowFold (n i : Nat) (x : Fx) : Fx :=
  (List.range n).foldl (fun x j => coupleEntryA thresh (d i j) (r i j) x) x

/-- Entry `j` of table B after the first `n` pairs of its column. -/
def columnFold (n j : Nat) (y : Fx) : Fx :=
  (List.range n).foldl (fun y i => coupleEntryB thresh (d i j) (r i j) y) y

theorem foldl_range_succ {α : Type} (f : α → Nat → α) (n : Nat) (a : α) :
    (List.range (n + 1)).foldl f a = f ((List.range n).foldl f a) n := by
  rw [List.range_succ, List.foldl_append, List.foldl_cons, List.foldl_nil]

/-- Both tables have their 64 entries. -/
def Tables64 (tabs : List Fx × List Fx) : Prop := tabs.1.length = 64 ∧ tabs.2.length = 64

variable {tabs : List Fx × List Fx}

/-- What a row of pairs does to every entry of the two tables. -/
theorem coupleRow_spec {n i : Nat} (hn : n ≤ 64) (hi : i < 64) (h : Tables64 tabs) :
    Tables64 (coupleRow thresh d r n i tabs) ∧
    (∀ k, (coupleRow thresh d r n i tabs).1.getD k 0#128 =
      if k = i then rowFold thresh d r n i (tabs.1.getD i 0#128) else tabs.1.getD k 0#128) ∧
    ∀ k, (coupleRow thresh d r n i tabs).2.getD k 0#128 =
      if k < n then coupleEntryB thresh (d i k) (r i k) (tabs.2.getD k 0#128)
      else tabs.2.getD k 0#128 := by
  induction n with
  | zero =>
    refine ⟨h, fun k => ?_, fun k => rfl⟩
    split
    · next hk => rw [hk]; rfl
    · rfl
  | succ n ih =>
    obtain ⟨⟨hlenA, hlenB⟩, hA, hB⟩ := ih (by omega)
    have hstep : coupleRow thresh d r (n + 1) i tabs =
      couplePair thresh d r i n (coupleRow thresh d r n i tabs) := foldl_range_succ _ n tabs
    have hfold (x : Fx) : rowFold thresh d r (n + 1) i x =
      coupleEntryA thresh (d i n) (r i n) (rowFold thresh d r n i x) := foldl_range_succ _ n x
    rw [hstep]
    refine ⟨⟨by simp [couplePair, hlenA], by simp [couplePair, hlenB]⟩, fun k => ?_, fun k => ?_⟩
    · rw [couplePair, getD_set _ k _ (hlenA ▸ hi), hA i, hA k, if_pos rfl, hfold]
      split <;> rfl
    · rw [couplePair, getD_set _ k _ (by omega), hB n, hB k, if_neg (Nat.lt_irrefl n)]
      by_cases hk : k = n
      · rw [if_pos hk, if_pos (by omega), hk]
      · simp only [if_neg hk, show k < n + 1 ↔ k < n by omega]

/-- What the rows of pairs do to every entry of the two tables. -/
theorem coupleRows_spec {n : Nat} (hn : n ≤ 64) (h : Tables64 tabs) :
    Tables64 (coupleRows thresh d r n tabs) ∧
    (∀ k, (coupleRows thresh d r n tabs).1.getD k 0#128 =
      if k < n then rowFold thresh d r 64 k (tabs.1.getD k 0#128) else tabs.1.getD k 0#128) ∧
    ∀ k < 64, (coupleRows thresh d r n tabs).2.getD k 0#128 =
      columnFold thresh d r n k (tabs.2.getD k 0#128) := by
  induction n with
  | zero => exact ⟨h, fun k => rfl, fun k _ => rfl⟩
  | succ n ih =>
    obtain ⟨hlen, hA, hB⟩ := ih (by omega)
    obtain ⟨hlen', hrowA, hrowB⟩ := coupleRow_spec thresh d r (Nat.le_refl 64)
      (show n < 64 by omega) hlen
    have hstep : coupleRows thresh d r (n + 1) tabs =
      coupleRow thresh d r 64 n (coupleRows thresh d r n tabs) := foldl_range_succ _ n tabs
    have hfold (k : Nat) (y : Fx) : columnFold thresh d r (n + 1) k y =
      coupleEntryB thresh (d n k) (r n k) (columnFold thresh d r n k y) := foldl_range_succ _ n y
    rw [hstep]
    refine ⟨hlen', fun k => ?_, fun k hk => ?_⟩
    · rw [hrowA k, hA n, hA k, if_neg (Nat.lt_irrefl n)]
      by_cases hkn : k = n
      · rw [if_pos hkn, if_pos (by omega), hkn]
      · simp only [if_neg hkn, show k < n + 1 ↔ k < n by omega]
    · rw [hrowB k, if_pos hk, hB k hk, hfold]

theorem foldl_of_fixed {α β : Type} {f : α → β → α} {l : List β} {x : α}
    (h : ∀ b ∈ l, f x b = x) : l.foldl f x = x := by
  induction l with
  | nil => rfl
  | cons b l ih =>
    rw [List.foldl_cons, h b List.mem_cons_self]
    exact ih fun c hc => h c (List.mem_cons_of_mem b hc)

theorem rowFold_of_far {n i : Nat} (h : ∀ j < n, thresh.toInt < (fxAbs (d i j)).toInt) (x : Fx) :
    rowFold thresh d r n i x = x :=
  foldl_of_fixed fun j hj => if_pos (h j (List.mem_range.1 hj))

theorem columnFold_of_far {n j : Nat} (h : ∀ i < n, thresh.toInt < (fxAbs (d i j)).toInt) (y : Fx) :
    columnFold thresh d r n j y = y :=
  foldl_of_fixed fun i hi => if_pos (h i (List.mem_range.1 hi))

end

/-! ### The double loop -/

theorem getD_map_fxMul (l : List Fx) (freq : Fx) (i : Nat) :
    (l.map fun x => fxMul x freq).getD i 0#128 = fxMul (l.getD i 0#128) freq := by
  have hzero : fxMul 0#128 freq = 0#128 := by rw [fxMul_comm, fxMul_zero]
  conv_lhs => rw [← hzero]
  exact List.getD_map _ _ fun x => fxMul x freq

/-- The double loop of R240 is the rows of pairs, with the pre-coupling differences and shifts. -/
theorem voiCoupleTables_eq {thresh freq dy : Fx} {ta tb : List Fx} {d r : Nat → Nat → Fx}
    (hd : ∀ i j, d i j = fxSub (fxMul (ta.getD i 0#128) freq) (fxMul (tb.getD j 0#128) freq))
    (hr : ∀ i j, r i j = voiShift freq dy (d i j)) :
    voiCoupleTables thresh freq dy (ta, tb) = coupleRows thresh d r 64 (ta, tb) := by
  simp only [voiCoupleTables, getD_map_fxMul, voiCouplePair_eq (hd _ _) (hr _ _)]
  rfl

/-- Settles O54: the rows of pairs at all 64 rows, and entries that no pair moves. -/
theorem couplingLeavesFarEntries : Obligations.CouplingLeavesFarEntries := by
  intro thresh freq dy ta tb d dx r hta htb hd hdx hr
  have hshift (i j : Nat) : r i j = voiShift freq dy (d i j) := by rw [hr, hdx]; rfl
  obtain ⟨⟨hlenA, hlenB⟩, hA, hB⟩ := coupleRows_spec thresh d r (Nat.le_refl 64)
    (show Tables64 (ta, tb) from ⟨hta, htb⟩)
  rw [voiCoupleTables_eq hd hshift]
  have hentryA (i : Nat) (hi : i < 64) := (hA i).trans (if_pos hi)
  exact ⟨hlenA, hlenB, hentryA, hB,
    fun i hi hfar => (hentryA i hi).trans (rowFold_of_far thresh d r hfar _),
    fun j hj hfar => (hB j hj).trans (columnFold_of_far thresh d r hfar _)⟩

/-! ### Trigger and release (R237, R238) -/

/-- Settles O52: each command is the shared rule for a VOI command on a legal target. -/
theorem voiceTriggerAndRelease : Obligations.VoiceTriggerAndRelease := by
  rintro s t srate note velocity malletFreq v n vl vel hwf rfl rfl rfl rfl
  exact ⟨atVoice_selVoice_wf (fun v =>
      voiTrigger s.params s.models v srate (sint note) (sint velocity) malletFreq) hwf,
    atVoice_selVoice_wf (voiRelease s.params s.models) hwf⟩

end Sys2Proof.Machine
end

section
/-! SUPPORT. The voice pool arbiter of spec/48_pool_render.md R256 as a search for the first
maximum, and the note commands on top of it. -/

namespace Sys2Proof.Machine

/-! ### The arbiter (R256) -/

/-- `b` is the least index at which `f` is largest among the first `n`. -/
def FirstMaximum (f : Nat → Nat) (n b : Nat) : Prop :=
  b < n ∧ (∀ j < n, f j ≤ f b) ∧ ∀ j < b, f j < f b

theorem FirstMaximum.succ_keep {f : Nat → Nat} {n b : Nat} (h : FirstMaximum f n b)
    (hn : f n ≤ f b) : FirstMaximum f (n + 1) b := by
  obtain ⟨hb, hmax, hleast⟩ := h
  refine ⟨by omega, fun j hj => ?_, hleast⟩
  rcases Nat.lt_succ_iff_lt_or_eq.1 hj with hj | rfl
  · exact hmax j hj
  · exact hn

theorem FirstMaximum.succ_new {f : Nat → Nat} {n b : Nat} (h : FirstMaximum f n b)
    (hn : f b < f n) : FirstMaximum f (n + 1) n := by
  obtain ⟨-, hmax, -⟩ := h
  have hless (j : Nat) (hj : j < n) : f j < f n := (hmax j hj).trans_lt hn
  refine ⟨by omega, fun j hj => ?_, hless⟩
  rcases Nat.lt_succ_iff_lt_or_eq.1 hj with hj | rfl
  · exact (hless j hj).le
  · exact Nat.le_refl _

/-- The scan carries the first maximum of the voices behind it to that of all voices. -/
theorem poolScan_firstMaximum (f : Nat → Nat) (vs : List Voice) {i best : Nat} {most : U32}
    (hf : ∀ k < vs.length, f (i + k) = (voiceAt vs k).frames.toNat) (hmost : f best = most.toNat)
    (h : FirstMaximum f i best) : FirstMaximum f (i + vs.length) (poolScan vs i best most) := by
  induction vs generalizing i best most with
  | nil => exact h
  | cons v vs ih =>
    have hv : f i = v.frames.toNat := hf 0 (Nat.succ_pos _)
    have htail (k : Nat) (hk : k < vs.length) : f (i + 1 + k) = (voiceAt vs k).frames.toNat := by
      rw [show i + 1 + k = i + (k + 1) by omega]
      exact hf (k + 1) (Nat.succ_lt_succ hk)
    rw [List.length_cons, show i + (vs.length + 1) = i + 1 + vs.length by omega, poolScan]
    split
    · next hlt => exact ih htail hv (h.succ_new (by omega))
    · next hge => exact ih htail hmost (h.succ_keep (by omega))

theorem poolNext_firstMaximum {vs : List Voice} (h : 1 ≤ vs.length) :
    FirstMaximum (fun j => (voiceAt vs j).frames.toNat) vs.length (poolNext vs) := by
  obtain ⟨v, vs, rfl⟩ := List.exists_cons_of_length_pos h
  have hfirst : poolNext (v :: vs) = poolScan vs 1 0 v.frames := if_neg (Nat.lt_irrefl _)
  rw [hfirst, List.length_cons, Nat.add_comm]
  refine poolScan_firstMaximum (fun j => (voiceAt (v :: vs) j).frames.toNat) vs (fun k _ => ?_) rfl
    ⟨Nat.one_pos, fun j hj => ?_, fun j hj => absurd hj (Nat.not_lt_zero j)⟩
  · rw [Nat.add_comm]
    rfl
  · rw [Nat.lt_one_iff.1 hj]

/-- Settles O55: the arbiter's answer is the first maximum of the counters. -/
theorem poolNextIsFirstMaximum : Obligations.PoolNextIsFirstMaximum := by
  intro s hnv
  obtain ⟨hlt, hmax, hleast⟩ := poolNext_firstMaximum hnv
  exact ⟨poolNext s.voices, hlt, rfl, hmax, hleast⟩

/-! ### Notes (R257, R258) -/

theorem clampInt_of_range {i lo hi : Int} (hlo : lo ≤ i) (hhi : i ≤ hi) : clampInt i lo hi = i := by
  rw [clampInt, if_neg (Int.not_lt.2 hlo), if_neg (Int.not_lt.2 hhi)]

theorem clampInt_idem (i : Int) {lo hi : Int} (h : lo ≤ hi) :
    clampInt (clampInt i lo hi) lo hi = clampInt i lo hi :=
  have ⟨hlo, hhi⟩ := clampInt_bounds i h
  clampInt_of_range hlo hhi

/-- `voi_trigger` clamps the note and the velocity itself, so it does not matter that `NOTE.ON` has
clamped them. -/
theorem voiTrigger_opInt (p : Params) (models : Memory) (v : Voice) (srate malletFreq : Fx)
    (note velocity : Word) :
    voiTrigger p models v srate (opInt 0 127 note) (opInt 0 127 velocity) malletFreq =
      voiTrigger p models v srate note.toInt velocity.toInt malletFreq := by
  simp only [voiTrigger, voiStart, opInt, sint, clampInt_idem _ (show (0 : Int) ≤ 127 by decide)]

theorem legalNote_toNat (w : Word) : ((legalNote w).toNat : Int) = clampInt w.toInt 0 127 :=
  have ⟨hlo, hhi⟩ := clampInt_bounds (sint w) (show (0 : Int) ≤ 127 by decide)
  toNat_ofInt_of_lt 7 hlo (by omega)

theorem noteHeld_legalNote_iff (note : Word) (v : Voice) :
    noteHeld (legalNote note) v = true ↔
      v.isPressed = true ∧ (v.note.toNat : Int) = clampInt note.toInt 0 127 := by
  rw [noteHeld, Bool.and_eq_true, beq_iff_eq, ← BitVec.toNat_inj, ← legalNote_toNat,
    Int.natCast_inj]

theorem voiceAt_map (f : Voice → Voice) {vs : List Voice} {j : Nat} (hj : j < vs.length) :
    voiceAt (vs.map f) j = f (voiceAt vs j) := by
  simp [voiceAt, hj]

/-- Settles O56: clamping a note twice is clamping it once, and a voice is released exactly if it
holds the clamped note. -/
theorem noteOnAndOff : Obligations.NoteOnAndOff := by
  intro s note velocity
  have hon : exec (.noteOn note velocity) s = complete [wordOfNat (poolNext s.voices)]
      (setVoice (poolNext s.voices) (voiTrigger s.params s.models
        (voiceAt s.voices (poolNext s.voices)) s.globals.srate (opInt 0 127 note)
        (opInt 0 127 velocity) s.globals.malletFreq) s) := rfl
  rw [hon, voiTrigger_opInt]
  refine ⟨rfl, _, _, rfl, List.length_map _, ?_, fun j hj => ?_⟩
  · refine List.countP_congr fun v _ => ?_
    rw [noteHeld_legalNote_iff, Bool.and_eq_true, decide_eq_true_iff]
  · rw [voiceAt_map _ hj]
    simp only [noteHeld_legalNote_iff]

end Sys2Proof.Machine
end

section
/-! SUPPORT. What one frame and `n` frames of spec/48_pool_render.md R262 do to a voice, the words
they take from `RNGIN`, and how the answer of `RENDER` is made from them. -/

namespace Sys2Proof.Machine

/-! ### The answer of `RENDER` -/

section
variable {s : State} {frameCount : Word} {n : Nat}

theorem exec_render_some (hn : n = (opInt 0 Config.framesMax frameCount).toNat)
    {vs : List Voice} {ws rest : List Word}
    (h : renderFrames s.params s.globals n s.voices s.rngIn = some (vs, ws, rest)) :
    exec (.render frameCount) s =
      .next (respond .ok ws { s with voices := vs.map (advanceFrames n), rngIn := rest }) := by
  subst hn
  simp only [exec, execRender, h, complete]

theorem exec_render_none (hn : n = (opInt 0 Config.framesMax frameCount).toNat)
    (h : renderFrames s.params s.globals n s.voices s.rngIn = none) :
    exec (.render frameCount) s = .fault .rngWait := by
  subst hn
  simp only [exec, execRender, h]

/-- A `RENDER` that goes on has rendered its frames. -/
theorem exec_render_next {s' : State} (hn : n = (opInt 0 Config.framesMax frameCount).toNat)
    (h : exec (.render frameCount) s = .next s') :
    ∃ vs ws rest, renderFrames s.params s.globals n s.voices s.rngIn = some (vs, ws, rest) ∧
      s' = respond .ok ws { s with voices := vs.map (advanceFrames n), rngIn := rest } := by
  cases hr : renderFrames s.params s.globals n s.voices s.rngIn with
  | none => cases (exec_render_none hn hr).symm.trans h
  | some out =>
    obtain ⟨vs, ws, rest⟩ := out
    exact ⟨vs, ws, rest, rfl, Host.Outcome.next.inj (h.symm.trans (exec_render_some hn hr))⟩

end

/-! ### The Envelope of a Noise over one frame and over `n` frames -/

theorem nseSample_env (u : Noise) (r : Fx) : (nseSample u r).1.env = envProcess u.env := rfl

/-- A Noise runs its Envelope whether it draws or not: one that is Off stays as it is. -/
theorem nseProcess_env {u n : Noise} {x : Fx} {rng rest : List Word}
    (h : nseProcess u rng = some (n, x, rest)) : n.env = envProcess u.env := by
  rcases nseProcess_cases u rng with ⟨hp, -, -⟩ | ⟨hp, hoff⟩ | ⟨r, left, -, -, hp⟩
  · cases hp.symm.trans h
  · cases hp.symm.trans h
    exact (envProcess_of_idle (.inl hoff)).symm
  · cases hp.symm.trans h
    exact nseSample_env u r

theorem FrameStep.env {p : Params} {g : Globals} {v v' : Voice} (h : FrameStep p g v v') :
    v'.noise.env = envProcess v.noise.env := by
  obtain ⟨rng, f, rest, hf, rfl⟩ := h
  obtain ⟨n, ns, hn, rfl⟩ := voiceFrame_some hf
  exact nseProcess_env hn

theorem FrameStep.frames {p : Params} {g : Globals} {v v' : Voice} (h : FrameStep p g v v') :
    v'.frames = v.frames := by
  obtain ⟨rng, f, rest, hf, rfl⟩ := h
  obtain ⟨n, ns, -, rfl⟩ := voiceFrame_some hf
  rfl

/-- The Noise Envelopes of a list of voices. -/
def envelopesOf (vs : List Voice) : List Envelope := vs.map fun v => v.noise.env

/-- What a function of a voice is after a move in place of every voice. -/
theorem forall₂_map_eq {α : Type} {R : Voice → Voice → Prop} {f g : Voice → α}
    (hR : ∀ v v', R v v' → g v' = f v) {vs vs' : List Voice} (h : List.Forall₂ R vs vs') :
    vs'.map g = vs.map f := by
  induction h with
  | nil => rfl
  | cons hv _ ih => rw [List.map_cons, List.map_cons, hR _ _ hv, ih]

section
variable {p : Params} {g : Globals} {vs : List Voice}

theorem frameVoices_envelopes {dir : Fx} {res : V4} {rng : List Word} {acc : FrameAcc}
    (h : frameVoices p g vs dir res rng = some acc) :
    envelopesOf acc.voices = (envelopesOf vs).map envProcess := by
  rw [envelopesOf, envelopesOf, List.map_map]
  exact forall₂_map_eq (fun _ _ hstep => hstep.env) (frameVoices_some h).1

theorem frameVoices_frames {dir : Fx} {res : V4} {rng : List Word} {acc : FrameAcc}
    (h : frameVoices p g vs dir res rng = some acc) :
    acc.voices.map Voice.frames = vs.map Voice.frames :=
  forall₂_map_eq (fun _ _ hstep => hstep.frames) (frameVoices_some h).1

/-- The first frame, then the others. -/
theorem renderFrames_succ_some {n : Nat} {vs' : List Voice} {rng ws rest : List Word}
    (h : renderFrames p g (n + 1) vs rng = some (vs', ws, rest)) :
    ∃ acc ws', frameVoices p g vs 0#128 .zero rng = some acc ∧
      renderFrames p g n acc.voices acc.rng = some (vs', ws', rest) ∧
      ws = (frameOut g acc.dir acc.res).words ++ ws' := by
  unfold renderFrames at h
  cases ha : frameVoices p g vs 0#128 .zero rng with
  | none => simp [ha] at h
  | some acc =>
    cases hr : renderFrames p g n acc.voices acc.rng with
    | none => simp [ha, hr] at h
    | some out =>
      simp only [ha, hr, Option.some.injEq, Prod.mk.injEq] at h
      obtain ⟨rfl, rfl, rfl⟩ := h
      exact ⟨acc, _, rfl, hr, rfl⟩

theorem renderFrames_succ_of_frame {n : Nat} {rng : List Word} {acc : FrameAcc}
    (h : frameVoices p g vs 0#128 .zero rng = some acc) :
    renderFrames p g (n + 1) vs rng = (renderFrames p g n acc.voices acc.rng).map fun out =>
      (out.1, (frameOut g acc.dir acc.res).words ++ out.2.1, out.2.2) := by
  rw [renderFrames, h]
  cases hr : renderFrames p g n acc.voices acc.rng <;> simp [hr]

theorem renderFrames_succ_of_wait {n : Nat} {rng : List Word}
    (h : frameVoices p g vs 0#128 .zero rng = none) : renderFrames p g (n + 1) vs rng = none := by
  rw [renderFrames, h]

/-- `n` frames run every Envelope `n` times and leave the counters to the command. -/
theorem renderFrames_envelopes {n : Nat} {vs' : List Voice} {rng ws rest : List Word}
    (h : renderFrames p g n vs rng = some (vs', ws, rest)) :
    envelopesOf vs' = (envelopesOf vs).map envProcess^[n] ∧
      vs'.map Voice.frames = vs.map Voice.frames := by
  induction n generalizing vs rng ws with
  | zero =>
    cases h
    exact ⟨(List.map_id _).symm, rfl⟩
  | succ n ih =>
    obtain ⟨acc, ws', ha, hr, -⟩ := renderFrames_succ_some h
    obtain ⟨henv, hframes⟩ := ih hr
    rw [henv, hframes, frameVoices_envelopes ha, frameVoices_frames ha, List.map_map]
    exact ⟨rfl, rfl⟩

end

/-! ### The words taken from `RNGIN` (R69, R264) -/

/-- A computation that needs `need` words of `rng`: it waits if they have not all arrived, and else
leaves the words after them. -/
def Takes (need : Nat) (rng : List Word) : Option (List Word) → Prop
  | none => rng.length < need
  | some rest => need ≤ rng.length ∧ rest = rng.drop need

theorem Takes.zero (rng : List Word) : Takes 0 rng (some rng) := ⟨Nat.zero_le _, rfl⟩

/-- Two computations one after the other need the words of both. -/
theorem Takes.seq {a b : Nat} {rng mid : List Word} {out : Option (List Word)}
    (hmid : Takes a rng (some mid)) (hout : Takes b mid out) : Takes (a + b) rng out := by
  obtain ⟨hle, rfl⟩ := hmid
  cases out with
  | none =>
    have hlt : (rng.drop a).length < b := hout
    rw [List.length_drop] at hlt
    show rng.length < a + b
    omega
  | some rest =>
    obtain ⟨hlen, rfl⟩ := hout
    rw [List.length_drop] at hlen
    exact ⟨by omega, List.drop_drop⟩

theorem Takes.wait {a : Nat} {rng : List Word} (h : Takes a rng none) (b : Nat) :
    Takes (a + b) rng none :=
  Nat.lt_add_right b h

theorem drawsWord_iff (e : Envelope) : drawsWord e = true ↔ e.state ≠ .off := decide_eq_true_iff

/-- One word exactly when the Envelope is not Off. -/
theorem nseProcess_takes (u : Noise) (rng : List Word) :
    Takes (if drawsWord u.env then 1 else 0) rng ((nseProcess u rng).map fun out => out.2.2) := by
  rcases nseProcess_cases u rng with ⟨hp, hon, rfl⟩ | ⟨hp, hoff⟩ | ⟨r, rest, rfl, hon, hp⟩
  · rw [hp, if_pos ((drawsWord_iff u.env).2 hon)]
    exact Nat.one_pos
  · rw [hp, if_neg fun hdraw => (drawsWord_iff u.env).1 hdraw hoff]
    exact Takes.zero rng
  · rw [hp, if_pos ((drawsWord_iff u.env).2 hon)]
    exact ⟨Nat.succ_pos _, rfl⟩

section
variable (p : Params) (g : Globals)

theorem voiceFrame_takes (v : Voice) (rng : List Word) :
    Takes (if drawsWord v.noise.env then 1 else 0) rng
      ((voiceFrame p g v rng).map fun out => out.2) := by
  have h := nseProcess_takes v.noise rng
  unfold voiceFrame
  cases hn : nseProcess v.noise rng with
  | none => rwa [hn] at h
  | some out => rwa [hn] at h

/-- A frame needs one word for each Envelope that is not Off. -/
theorem frameVoices_takes (vs : List Voice) (dir : Fx) (res : V4) (rng : List Word) :
    Takes ((envelopesOf vs).countP drawsWord) rng
      ((frameVoices p g vs dir res rng).map fun acc => acc.rng) := by
  induction vs generalizing dir res rng with
  | nil => exact Takes.zero rng
  | cons v vs ih =>
    have hneed : (envelopesOf (v :: vs)).countP drawsWord =
        (if drawsWord v.noise.env then 1 else 0) + (envelopesOf vs).countP drawsWord :=
      List.countP_cons.trans (Nat.add_comm _ _)
    have hv := voiceFrame_takes p g v rng
    rw [hneed]
    cases hf : voiceFrame p g v rng with
    | none =>
      rw [hf] at hv
      simpa [frameVoices, hf] using hv.wait _
    | some out =>
      obtain ⟨f, mid⟩ := out
      rw [hf] at hv
      have htail := hv.seq (ih (fxAdd dir f.direct) (V4.add res f.out) mid)
      cases ha : frameVoices p g vs (fxAdd dir f.direct) (V4.add res f.out) mid <;>
        simpa [frameVoices, hf, ha] using htail

theorem renderFrames_takes (n : Nat) (vs : List Voice) (rng : List Word) :
    Takes (rngNeeded n (envelopesOf vs)) rng
      ((renderFrames p g n vs rng).map fun out => out.2.2) := by
  induction n generalizing vs rng with
  | zero => exact Takes.zero rng
  | succ n ih =>
    have hframe := frameVoices_takes p g vs 0#128 .zero rng
    rw [rngNeeded]
    cases ha : frameVoices p g vs 0#128 .zero rng with
    | none =>
      rw [ha] at hframe
      rw [renderFrames_succ_of_wait ha]
      exact hframe.wait _
    | some acc =>
      rw [ha] at hframe
      rw [renderFrames_succ_of_frame ha, Option.map_map, ← frameVoices_envelopes ha]
      exact hframe.seq (ih acc.voices acc.rng)

end

/-! ### When `RENDER` completes (R262, R264) -/

theorem forall₂_voiceAt {R : Voice → Voice → Prop} {vs vs' : List Voice}
    (h : List.Forall₂ R vs vs') {j : Nat} (hj : j < vs.length) :
    R (voiceAt vs j) (voiceAt vs' j) := by
  have hj' : j < vs'.length := h.length_eq ▸ hj
  simpa [voiceAt, hj, hj'] using h.get hj hj'

theorem voiceAt_of_map_eq {α : Type} {f g : Voice → α} {vs vs' : List Voice}
    (h : vs'.map g = vs.map f) {j : Nat} (hj : j < vs.length) :
    g (voiceAt vs' j) = f (voiceAt vs j) := by
  have hlen : vs'.length = vs.length := by simpa using congrArg List.length h
  have hj' : j < vs'.length := hlen ▸ hj
  have hget : (vs'.map g)[j]? = (vs.map f)[j]? := by rw [h]
  simpa [voiceAt, hj, hj'] using hget

/-- Settles O57: the frames need the words of their Envelopes, run each Envelope once a frame and
leave the counters, to which the command then adds. -/
theorem renderDrawsAndCompletes : Obligations.RenderDrawsAndCompletes := by
  rintro s frameCount n need hn rfl
  have hn' : n = (opInt 0 Config.framesMax frameCount).toNat := hn
  have htakes := renderFrames_takes s.params s.globals n s.voices s.rngIn
  refine ⟨fun hle => ?_, fun hlt => ?_⟩
  · cases hr : renderFrames s.params s.globals n s.voices s.rngIn with
    | none =>
      rw [hr] at htakes
      exact absurd hle (Nat.not_le.2 htakes)
    | some out =>
      obtain ⟨vs, ws, rest⟩ := out
      rw [hr] at htakes
      obtain ⟨-, rfl⟩ : _ ∧ rest = s.rngIn.drop (rngNeeded n (noiseEnvelopes s)) := htakes
      have hlen : vs.length = s.voices.length := (renderFrames_some hr).1.length_eq.symm
      obtain ⟨henv, hframes⟩ := renderFrames_envelopes hr
      rw [envelopesOf, envelopesOf, List.map_map] at henv
      refine ⟨_, ws, exec_render_some hn' hr, renderFrames_length hr,
        (List.length_map _).trans hlen, fun j hj => ?_⟩
      rw [voiceAt_map _ (hlen ▸ hj)]
      have hcounter : (voiceAt vs j).frames = (voiceAt s.voices j).frames :=
        voiceAt_of_map_eq hframes hj
      refine ⟨?_, voiceAt_of_map_eq (g := fun v => v.noise.env) henv hj⟩
      rw [← hcounter]
      exact addSat32_toNat _ n
  · cases hr : renderFrames s.params s.globals n s.voices s.rngIn with
    | none => exact exec_render_none hn' hr
    | some out =>
      rw [hr] at htakes
      exact absurd hlt (Nat.not_lt.2 htakes.1)

end Sys2Proof.Machine
end

section
/-! SUPPORT. Frames in blocks, the voices over many frames, and the datapath of one frame
(spec/48_pool_render.md R260 to R262). -/

namespace Sys2Proof.Machine

/-! ### The counters do not take part in a frame (R262) -/

theorem addSat32_addSat32 (c : U32) (m n : Nat) :
    addSat32 (addSat32 c m) n = addSat32 c (m + n) := by
  rw [← BitVec.toNat_inj, addSat32_toNat, addSat32_toNat, addSat32_toNat]
  omega

theorem addSat32_zero (c : U32) : addSat32 c 0 = c := by
  have hc : c.toNat < 2 ^ 32 := c.isLt
  rw [← BitVec.toNat_inj, addSat32_toNat]
  omega

theorem advanceFrames_advanceFrames (m n : Nat) (v : Voice) :
    advanceFrames n (advanceFrames m v) = advanceFrames (m + n) v := by
  simp only [advanceFrames, addSat32_addSat32]

theorem advanceFrames_zero (v : Voice) : advanceFrames 0 v = v := by
  simp only [advanceFrames, addSat32_zero]

section
variable (p : Params) (g : Globals) (m : Nat)

/-- A voice with another counter goes through a frame in the same way. -/
theorem voiceFrame_advanceFrames (v : Voice) (rng : List Word) :
    voiceFrame p g (advanceFrames m v) rng = (voiceFrame p g v rng).map fun out =>
      ({ out.1 with voice := advanceFrames m out.1.voice }, out.2) := by
  unfold voiceFrame
  have hnoise : (advanceFrames m v).noise = v.noise := rfl
  rw [hnoise]
  cases nseProcess v.noise rng with
  | none => rfl
  | some out => rfl

theorem frameVoices_advanceFrames (vs : List Voice) (dir : Fx) (res : V4) (rng : List Word) :
    frameVoices p g (vs.map (advanceFrames m)) dir res rng =
      (frameVoices p g vs dir res rng).map fun acc =>
        { acc with voices := acc.voices.map (advanceFrames m) } := by
  induction vs generalizing dir res rng with
  | nil => rfl
  | cons v vs ih =>
    rw [List.map_cons, frameVoices, frameVoices, voiceFrame_advanceFrames]
    cases voiceFrame p g v rng with
    | none => rfl
    | some out =>
      obtain ⟨f, rest⟩ := out
      simp only [Option.map_some, ih]
      cases frameVoices p g vs (fxAdd dir f.direct) (V4.add res f.out) rest <;> rfl

theorem renderFrames_advanceFrames (n : Nat) (vs : List Voice) (rng : List Word) :
    renderFrames p g n (vs.map (advanceFrames m)) rng =
      (renderFrames p g n vs rng).map fun out => (out.1.map (advanceFrames m), out.2) := by
  induction n generalizing vs rng with
  | zero => rfl
  | succ n ih =>
    have hframe := frameVoices_advanceFrames p g m vs 0#128 .zero rng
    cases ha : frameVoices p g vs 0#128 .zero rng with
    | none =>
      rw [ha] at hframe
      rw [renderFrames_succ_of_wait ha, renderFrames_succ_of_wait hframe]
      rfl
    | some acc =>
      rw [ha] at hframe
      rw [renderFrames_succ_of_frame ha, renderFrames_succ_of_frame hframe, ih, Option.map_map,
        Option.map_map]
      rfl

end

/-! ### Two blocks (R262) -/

/-- `m` frames and then `n` frames are `m + n` frames. -/
theorem renderFrames_append {p : Params} {g : Globals} {m n : Nat} {vs vs₁ vs₂ : List Voice}
    {rng ws₁ ws₂ rest₁ rest₂ : List Word}
    (h₁ : renderFrames p g m vs rng = some (vs₁, ws₁, rest₁))
    (h₂ : renderFrames p g n vs₁ rest₁ = some (vs₂, ws₂, rest₂)) :
    renderFrames p g (m + n) vs rng = some (vs₂, ws₁ ++ ws₂, rest₂) := by
  induction m generalizing vs rng ws₁ with
  | zero =>
    cases h₁
    rw [Nat.zero_add]
    exact h₂
  | succ m ih =>
    obtain ⟨acc, ws, ha, hr, rfl⟩ := renderFrames_succ_some h₁
    rw [Nat.succ_add, renderFrames_succ_of_frame ha, ih hr, Option.map_some, List.append_assoc]

/-- Settles O58: the second block starts from voices that differ from those of the one long block in
their counters alone. -/
theorem renderSplitsIntoBlocks : Obligations.RenderSplitsIntoBlocks := by
  intro s s1 s2 m n mn hm hn hsum hmn h1 h2
  have hcount {w : Word} {k : Nat} (h0 : w.toInt = k) (hk : k ≤ 4294967295) :
      k = (opInt 0 Config.framesMax w).toNat := by
    rw [opInt, sint, h0, clampInt_of_range (by omega) (by exact_mod_cast hk), Int.toNat_natCast]
  obtain ⟨a, ha⟩ := Int.eq_ofNat_of_zero_le hm
  obtain ⟨b, hb⟩ := Int.eq_ofNat_of_zero_le hn
  obtain ⟨vs₁, ws₁, rest₁, hr₁, rfl⟩ := exec_render_next (hcount ha (by omega)) h1
  obtain ⟨vs₂, ws₂, rest₂, hr₂, rfl⟩ := exec_render_next (hcount hb (by omega)) h2
  simp only [respond_params, respond_globals, respond_voices, respond_rngIn,
    renderFrames_advanceFrames, Option.map_eq_some_iff, Prod.mk.injEq] at hr₂
  obtain ⟨⟨vs, ws₂, rest₂⟩, hr, rfl, rfl, rfl⟩ := hr₂
  have hlong := exec_render_some (hcount (w := mn) (k := a + b) (by omega) (by omega))
    (renderFrames_append hr₁ hr)
  refine ⟨_, ws₁, ws₂, hlong, ?_, rfl, rfl, rfl, rfl⟩
  simp only [respond_voices, List.map_map, Function.comp_def, advanceFrames_advanceFrames]

/-! ### What a `RENDER` leaves of a voice (R261, R262) -/

/-- `w` has the parameters of `v`, and its Resonators that are off. -/
def KeepsSettings (v w : Voice) : Prop :=
  (v.resA.on = false → w.resA = v.resA) ∧ (v.resB.on = false → w.resB = v.resB) ∧
    w = { v with
      mallet := w.mallet, noise := w.noise, resA := w.resA, resB := w.resB, frames := w.frames }

theorem KeepsSettings.refl (v : Voice) : KeepsSettings v v := ⟨fun _ => rfl, fun _ => rfl, rfl⟩

theorem KeepsSettings.trans {u v w : Voice} (huv : KeepsSettings u v) (hvw : KeepsSettings v w) :
    KeepsSettings u w := by
  obtain ⟨hA, hB, hv⟩ := huv
  obtain ⟨hA', hB', hw⟩ := hvw
  refine ⟨fun hoff => ?_, fun hoff => ?_, ?_⟩
  · have hsame := hA hoff
    rw [hA' (hsame ▸ hoff), hsame]
  · have hsame := hB hoff
    rw [hB' (hsame ▸ hoff), hsame]
  · rw [hv] at hw
    exact hw

theorem resFrame_of_off {r : Resonator} (h : r.on = false) (p : Params) (x : V4) :
    resFrame p r x = r :=
  if_neg (ne_true_of_eq_false h)

theorem FrameStep.keepsSettings {p : Params} {g : Globals} {v w : Voice} (h : FrameStep p g v w) :
    KeepsSettings v w := by
  obtain ⟨rng, f, rest, hf, rfl⟩ := h
  obtain ⟨n, ns, -, rfl⟩ := voiceFrame_some hf
  exact ⟨fun hoff => resFrame_of_off hoff p _, fun hoff => resFrame_of_off hoff p _, rfl⟩

theorem frames_keepSettings {p : Params} {g : Globals} {v w : Voice}
    (h : Relation.ReflTransGen (FrameStep p g) v w) : KeepsSettings v w := by
  induction h with
  | refl => exact .refl v
  | tail _ hstep ih => exact ih.trans hstep.keepsSettings

theorem advanceFrames_keepsSettings (n : Nat) (v : Voice) : KeepsSettings v (advanceFrames n v) :=
  ⟨fun _ => rfl, fun _ => rfl, rfl⟩

/-- Settles O59: every frame keeps the settings of a voice, and so does the advance of its
counter. -/
theorem renderSkipsDisabledResonators : Obligations.RenderSkipsDisabledResonators := by
  intro s s' frameCount j h hj
  obtain ⟨vs, ws, rest, hr, rfl⟩ := exec_render_next rfl h
  have hmoved := (renderFrames_some hr).1
  have hkept : KeepsSettings (voiceAt s.voices j) (voiceAt vs j) :=
    frames_keepSettings (forall₂_voiceAt hmoved hj)
  obtain ⟨hA, hB, hvoice⟩ := hkept.trans (advanceFrames_keepsSettings
    (opInt 0 Config.framesMax frameCount).toNat (voiceAt vs j))
  rw [respond_voices, voiceAt_map _ (hmoved.length_eq ▸ hj)]
  exact ⟨hA, hB, _, rfl, hvoice⟩

/-! ### The datapath of one frame (R260 to R262) -/

/-- The voice loop from the frames of its voices: `f j` is what voice `j` gives, `rng j` what is
left before it, `dir j` and `res j` the buses before it. -/
theorem frameVoices_of_frames {p : Params} {g : Globals} {vs : List Voice} {f : Nat → VoiceFrame}
    {rng : Nat → List Word} {dir : Nat → Fx} {res : Nat → V4}
    (hf : ∀ j < vs.length, voiceFrame p g (voiceAt vs j) (rng j) = some (f j, rng (j + 1)))
    (hdir : ∀ j < vs.length, dir (j + 1) = fxAdd (dir j) (f j).direct)
    (hres : ∀ j < vs.length, res (j + 1) = V4.add (res j) (f j).out) :
    frameVoices p g vs (dir 0) (res 0) (rng 0) =
      some { voices := (List.range vs.length).map fun j => (f j).voice
             dir := dir vs.length, res := res vs.length, rng := rng vs.length } := by
  induction vs generalizing f rng dir res with
  | nil => rfl
  | cons v vs ih =>
    have hhead : voiceFrame p g v (rng 0) = some (f 0, rng 1) := hf 0 (Nat.succ_pos _)
    have htail := ih (f := fun j => f (j + 1)) (rng := fun j => rng (j + 1))
      (dir := fun j => dir (j + 1)) (res := fun j => res (j + 1))
      (fun j hj => hf (j + 1) (Nat.succ_lt_succ hj))
      (fun j hj => hdir (j + 1) (Nat.succ_lt_succ hj))
      (fun j hj => hres (j + 1) (Nat.succ_lt_succ hj))
    simp only [Nat.zero_add] at htail
    rw [frameVoices]
    simp only [hhead]
    rw [← hdir 0 (Nat.succ_pos _), ← hres 0 (Nat.succ_pos _)]
    simp only [Nat.zero_add, htail, List.length_cons, List.range_succ_eq_map, List.map_cons,
      List.map_map, Function.comp_def]

/-- A Resonator keeps the registers of its post Filter, which is run after it. -/
theorem resProcess_post (p : Params) (u : Resonator) (x : V4) :
    (resProcess p u x).1.post = u.post := by
  cases hactive : u.active with
  | false => rw [resProcess_of_inactive hactive]
  | true =>
    rw [resProcess_of_active hactive p x rfl, resStepVariant_frame]

theorem resPostStep_eq (p : Params) (r : Resonator) (x : V4) :
    resPostStep p r x = { (resProcess p r x).1 with
      post := fltDf1Four r.post (resProcess p r x).2 } := by
  rw [resPostStep, resProcess_post]

theorem voiceAt_map_range (f : Nat → Voice) {n j : Nat} (hj : j < n) :
    voiceAt ((List.range n).map f) j = f j := by
  simp [voiceAt, hj]

theorem renderFrames_one {p : Params} {g : Globals} {vs : List Voice} {rng : List Word}
    {acc : FrameAcc} (h : frameVoices p g vs 0#128 .zero rng = some acc) :
    renderFrames p g 1 vs rng = some (acc.voices, (frameOut g acc.dir acc.res).words, acc.rng) := by
  rw [renderFrames_succ_of_frame h, renderFrames, Option.map_some, List.append_nil]

/-- A `RENDER` of no frames moves nothing. -/
theorem exec_render_no_frames {s : State} {frameCount : Word} (h : frameCount.toInt ≤ 0) :
    exec (.render frameCount) s = .next { s with respOut := s.respOut ++ [0#128] } := by
  have hn : 0 = (opInt 0 Config.framesMax frameCount).toNat := by
    simp only [opInt, sint, clampInt, Config.framesMax]
    omega
  rw [exec_render_some hn rfl, funext advanceFrames_zero, List.map_id']
  rfl

/-- A Resonator over one frame, its post Filter fed with what the Resonator answers. -/
theorem resFrame_eq (p : Params) (r : Resonator) (x : V4) :
    resFrame p r x =
      if r.on then { (resProcess p r x).1 with post := fltDf1Four r.post (resProcess p r x).2 }
      else r := by
  rw [resFrame, resPostStep_eq]

theorem resFrameOut_eq (p : Params) (r : Resonator) (x : V4) :
    resFrameOut p r x =
      if r.on then (fltDf1Four r.post (resProcess p r x).2).y0 else V4.zero := by
  rw [resFrameOut, resPostStep_eq]

/-- What voice `v` gives to a frame, from its excitation `e4`, the input `inB` of its Resonator B
and its output `out`; `n` is its Noise after the frame, `m` and `ns` the samples of its exciters. -/
def frameFrom (p : Params) (g : Globals) (v : Voice) (n : Noise) (m ns : Fx) (e4 inB out : V4) :
    VoiceFrame :=
  { voice := { v with
      mallet := (mltProcess v.mallet).1, noise := n
      resA := resFrame p v.resA e4, resB := resFrame p v.resB inB }
    direct := mix2 m g.malletMix ns g.noiseMix
    out := out }

/-- The routing of R261: Resonator B takes the output of A or the excitation, and the voice answers
with B or with the sum. -/
theorem voiceFrame_eq {p : Params} {g : Globals} {v : Voice} {rng rest : List Word} {n : Noise}
    {ns : Fx} {e4 a inB b : V4} (hn : nseProcess v.noise rng = some (n, ns, rest))
    (he4 : e4 = V4.splat (mix2 (mltProcess v.mallet).2 g.malletRes ns g.noiseRes))
    (ha : a = resFrameOut p v.resA e4) (hinB : inB = if coupledFlag v then a else e4)
    (hb : b = resFrameOut p v.resB inB) :
    voiceFrame p g v rng = some (frameFrom p g v n (mltProcess v.mallet).2 ns e4 inB
      (if coupledFlag v then b else V4.add a b), rest) := by
  subst hb hinB ha he4
  rw [voiceFrame, hn]
  rfl

/-- Settles O60: each voice's frame is routed by its Resonators, and the voice loop strings the
frames together. -/
theorem renderFrameMix : Obligations.RenderFrameMix := by
  refine ⟨?_, fun s frameCount => exec_render_no_frames⟩
  intro s v n m ns dir ser rng e4 a b inB res hv hrng hnoise hdir0 hdir he4 ha hinB hb hres0 hres
  have hvoice (j : Nat) : v j = voiceAt s.voices j := (hv j).1
  have hmallet (j : Nat) : m j = (mltProcess (v j).mallet).2 := (hv j).2.1
  have hser (j : Nat) : ser j = coupledFlag (v j) := (hv j).2.2
  have hframe : ∀ j < s.voices.length, voiceFrame s.params s.globals (voiceAt s.voices j) (rng j) =
      some (frameFrom s.params s.globals (v j) (n j) (m j) (ns j) (e4 j) (inB j)
        (if ser j then b j else V4.add (a j) (b j)), rng (j + 1)) := by
    intro j hj
    rw [← hvoice, hser, hmallet]
    exact voiceFrame_eq (hnoise j hj) (hmallet j ▸ he4 j hj)
      ((ha j hj).trans (resFrameOut_eq ..).symm)
      (hser j ▸ hinB j hj) ((hb j hj).trans (resFrameOut_eq ..).symm)
  have hloop := frameVoices_of_frames hframe hdir hres
  rw [hrng, hdir0, hres0] at hloop
  have hone : 1 = (opInt 0 Config.framesMax 1#128).toNat := by decide
  refine ⟨_, exec_render_some hone (renderFrames_one hloop), ?_, fun j hj => ?_⟩
  · simp [State.nv]
  · have hj' : j < s.voices.length := hj
    rw [voiceAt_map _ (by simpa using hj')]
    dsimp only
    rw [voiceAt_map_range _ hj', frameFrom, resFrame_eq, resFrame_eq]
    rfl

end Sys2Proof.Machine
end

section
/-! SUPPORT. The system commands, the global registers, the model memory and the reset values
(spec/49_system.md; spec/10_state.md R24 to R35), and the target checks of R297. -/

namespace Sys2Proof.Machine

/-! ### The reset (R320) -/

/-- Settles O11: the reset of the units of a state with legal parameters meets the invariant. -/
theorem resetMeetsStateInv : Obligations.ResetMeetsStateInv := by
  have hparams : ParamsLegal State.reset.params := by decide
  have hnv : State.reset.nv = 8 := by decide
  refine ⟨hparams, by omega, by omega, Memory.wf_nil, Memory.below_nil 8192, fun v hv => ?_⟩
  rw [List.eq_of_mem_replicate hv]
  exact Voice.reset_inv hparams

/-- Settles O18: neither command depends on the state. -/
theorem nopAndSysReset : Obligations.NopAndSysReset := fun _ => ⟨rfl, rfl⟩

/-! ### The global registers (R24, R277, R278) -/

/-- Writing a register that exists: it takes the word, and the others stay. -/
theorem writeGlobal_spec (g : Globals) {k : Nat} (hk : k ≤ 6) (x : Fx) :
    ∃ g', writeGlobal g k x = some g' ∧ readGlobal g' k = some x ∧
      ∀ j, j ≠ k → readGlobal g' j = readGlobal g j := by
  interval_cases k
  all_goals
    refine ⟨_, rfl, rfl, fun j hj => ?_⟩
    unfold readGlobal
    split
    all_goals first | rfl | exact absurd rfl hj

theorem readGlobal_some (g : Globals) {k : Nat} (hk : k ≤ 6) : ∃ y, readGlobal g k = some y := by
  interval_cases k <;> exact ⟨_, rfl⟩

theorem global_none (g : Globals) {k : Nat} (hk : 6 < k) (x : Fx) :
    writeGlobal g k x = none ∧ readGlobal g k = none := by
  obtain ⟨n, rfl⟩ := Nat.exists_eq_add_of_lt hk
  rw [show 6 + n + 1 = n + 7 by omega]
  exact ⟨rfl, rfl⟩

/-- Settles O19: by the tables of the global registers. -/
theorem cfgWriteAndRead : Obligations.CfgWriteAndRead := by
  intro s k x
  refine ⟨fun hk => ?write, fun hk => ?read, fun hk => ?index⟩
  case write =>
    obtain ⟨g, hwrite, hsame, hother⟩ := writeGlobal_spec s.globals hk x
    exact ⟨g, by simp only [exec, execCfgWr, hwrite]; rfl, hsame, hother⟩
  case read =>
    obtain ⟨y, hread⟩ := readGlobal_some s.globals hk
    exact ⟨y, hread, by simp only [exec, execCfgRd, hread]; rfl⟩
  case index =>
    obtain ⟨hwrite, hread⟩ := global_none s.globals hk x
    exact ⟨by simp only [exec, execCfgWr, hwrite]; rfl, by simp only [exec, execCfgRd, hread]; rfl⟩

/-! ### Suspend and resume (R281, R282) -/

theorem bank_ext {b c : Bank} (h : ∀ i < 64, bankGet b i = bankGet c i) : b = c := by
  refine Vector.ext fun i hi => ?_
  rw [← bankGet_eq b i hi, ← bankGet_eq c i hi]
  exact h i hi

theorem bankMapBelow_idem {n : Nat} {f : Nat → Partial → Partial}
    (hf : ∀ i p, f i (f i p) = f i p) (b : Bank) :
    bankMapBelow n f (bankMapBelow n f b) = bankMapBelow n f b := by
  refine bank_ext fun i hi => ?_
  rw [bankGet_bankMapBelow _ _ _ _ hi, bankGet_bankMapBelow _ _ _ _ hi]
  split
  · exact hf i _
  · rfl

theorem prtClear_idem (u : Partial) : prtClear (prtClear u) = prtClear u := rfl

theorem resClear_idem (u : Resonator) : resClear (resClear u) = resClear u := by
  have hparts := bankMapBelow_idem (n := Config.npart) (fun _ => prtClear_idem) u.parts
  have hwg : wgdClear (wgdClear u.wg) = wgdClear u.wg := rfl
  have hpost : fltResetFour (fltResetFour u.post) = fltResetFour u.post := rfl
  simp only [resClear, hparts, hwg, hpost]

theorem voiClear_idem (v : Voice) : voiClear (voiClear v) = voiClear v := by
  have hmallet : mltClear (mltClear v.mallet) = mltClear v.mallet := rfl
  have hnoise : nseClear (nseClear v.noise) = nseClear v.noise := rfl
  simp only [voiClear, resClear_idem, hmallet, hnoise]

/-- Settles O23: clearing a voice twice is clearing it once. -/
theorem suspendAndResumeFlush : Obligations.SuspendAndResumeFlush := by
  refine fun s => ⟨rfl, rfl, ?_⟩
  rintro _ ⟨⟩
  have htwice : (s.voices.map voiClear).map voiClear = s.voices.map voiClear := by
    rw [List.map_map]
    exact List.map_congr_left fun v _ => voiClear_idem v
  show Host.Outcome.next (respond .ok [] (sysFlush (respond .ok [] (sysFlush s)))) = _
  simp only [sysFlush, respond, htwice]
  rfl

/-! ### The model memory (R283, R284) -/

theorem mdlIndex_of_range {w : Word} (hlo : 0 ≤ w.toInt) (hhi : w.toInt ≤ 63) :
    mdlIndex w = some w.toInt.toNat := by
  rw [mdlIndex, sint, if_neg (by omega)]

theorem mdlIndex_none {w : Word} (h : w.toInt < 0 ∨ 63 < w.toInt) : mdlIndex w = none := if_pos h

theorem sideOfCode_resCode (sd : Side) : sideOfCode (resCode sd) = some sd := by cases sd <;> rfl

theorem sideOfCode_none {u : BitVec 8} (ha : u ≠ 0x10#8) (hb : u ≠ 0x20#8) :
    sideOfCode u = none := by
  unfold sideOfCode
  split
  · next h => exact absurd (BitVec.eq_of_toNat_eq h) ha
  · next h => exact absurd (BitVec.eq_of_toNat_eq h) hb
  · rfl

section
variable {s : State} {u : BitVec 8} {sd : Side} {m e : Word}

theorem exec_mdl_some (x : Word) {mi ei : Nat} (hu : sideOfCode u = some sd)
    (hm : mdlIndex m = some mi) (he : mdlIndex e = some ei) :
    exec (.mdlWr u m e x) s =
        .next (respond .ok [] { s with models := mdlWrite s.models sd mi ei x }) ∧
      exec (.mdlRd u m e) s = .next (respond .ok [mdlRead s.models sd mi ei] s) := by
  constructor
  · simp only [exec, execMdlWr, hu, hm, he, complete]
  · simp only [exec, execMdlRd, hu, hm, he, complete]

theorem exec_mdl_index (x : Word) (hu : sideOfCode u = some sd)
    (h : mdlIndex m = none ∨ mdlIndex e = none) :
    exec (.mdlWr u m e x) s = .next (respond .index [] s) ∧
      exec (.mdlRd u m e) s = .next (respond .index [] s) := by
  simp only [exec, execMdlWr, execMdlRd, hu]
  rcases h with h | h
  · simp only [h]
    exact ⟨rfl, rfl⟩
  · simp only [h]
    cases mdlIndex m <;> exact ⟨rfl, rfl⟩

theorem exec_mdl_unit (x : Word) (hu : sideOfCode u = none) :
    exec (.mdlWr u m e x) s = .next (respond .unit [] s) ∧
      exec (.mdlRd u m e) s = .next (respond .unit [] s) := by
  simp only [exec, execMdlWr, execMdlRd, hu]
  exact ⟨rfl, rfl⟩

end

/-- Settles O24: the two commands write and read the model memory, in which distinct names of words
have distinct addresses. -/
theorem modelMemoryWriteAndRead : Obligations.ModelMemoryWriteAndRead := by
  intro s sd m e x u
  refine ⟨fun hm0 hm1 he0 he1 => ?inside, fun hout => ?outside, fun ha hb => ?noSide⟩
  case inside =>
    obtain ⟨hwrite, hread⟩ := exec_mdl_some (s := s) x (sideOfCode_resCode sd)
      (mdlIndex_of_range hm0 hm1) (mdlIndex_of_range he0 he1)
    exact ⟨⟨_, hwrite, mdlRead_mdlWrite_same _ _ _ _ _,
      fun sd' m' e' hm' he' hne => mdlRead_mdlWrite_other _ _ _ _ _ _ _ _ (by omega) (by omega)
        hm' he' hne,
      fun a ha => Memory.read_write_other _ _ _ _ ha⟩, hread⟩
  case outside =>
    refine exec_mdl_index x (sideOfCode_resCode sd) ?_
    rcases hout with h | h | h | h
    · exact .inl (mdlIndex_none (.inl h))
    · exact .inl (mdlIndex_none (.inr h))
    · exact .inr (mdlIndex_none (.inl h))
    · exact .inr (mdlIndex_none (.inr h))
  case noSide => exact exec_mdl_unit x (sideOfCode_none ha hb)

/-! ### The target checks in their order (R297) -/

section
variable {α : Type} {sel : BitVec 8 → Option α} {nv : Nat} {t : Target}

theorem checkTarget_voice (hv : nv ≤ t.v.toNat) : checkTarget sel nv t = .error .voice := if_pos hv

theorem checkTarget_unit (hv : t.v.toNat < nv) (hu : sel t.u = none) :
    checkTarget sel nv t = .error .unit := by
  rw [checkTarget, if_neg (Nat.not_le.2 hv), hu]

theorem checkTarget_index {a : α} (hv : t.v.toNat < nv) (hu : sel t.u = some a)
    (hpart : t.u = 0x13#8 ∨ t.u = 0x23#8) (hk : 63 < t.k.toNat) :
    checkTarget sel nv t = .error .index := by
  rw [checkTarget, if_neg (Nat.not_le.2 hv), hu]
  exact (if_pos hpart).trans (if_pos hk)

theorem checkTarget_reserved {a : α} (hv : t.v.toNat < nv) (hu : sel t.u = some a)
    (hpart : ¬(t.u = 0x13#8 ∨ t.u = 0x23#8)) (hk : t.k ≠ 0#8) :
    checkTarget sel nv t = .error .reserved := by
  rw [checkTarget, if_neg (Nat.not_le.2 hv), hu]
  exact (if_neg hpart).trans (if_pos hk)

end

/-- A result is that of a command which makes the target checks with a selector for the units `us`
and answers what they reject by the status alone. -/
def ChecksTarget (us : List (BitVec 8)) (t : Target) (s : State) (r : Result) : Prop :=
  ∃ (α : Type) (sel : BitVec 8 → Option α), (∀ u, (sel u).isSome = us.contains u) ∧
    ∀ e, checkTarget sel s.nv t = .error e → r = .next (respond e [] s)

theorem atVoice_checksTarget {α : Type} {sel : BitVec 8 → Option α} {us : List (BitVec 8)}
    (hs : ∀ u, (sel u).isSome = us.contains u) {t : Target} {s : State}
    (f : α → Voice → Voice × List Word) : ChecksTarget us t s (atVoice sel t s f) :=
  ⟨α, sel, hs, fun e he => by rw [atVoice, he]; rfl⟩

section
variable {t : Target} {s : State}

theorem atEnv_checksTarget (f : Envelope → Envelope × List Word) :
    ChecksTarget [0x05#8] t s (atEnv t s f) :=
  atVoice_checksTarget selEnv_isSome _

theorem atFilter_checksTarget (one : BiquadFilter Fx → BiquadFilter Fx × List Word)
    (four : BiquadFilter V4 → BiquadFilter V4 × List Word) :
    ChecksTarget filterUnits t s (atFilter t s one four) :=
  atVoice_checksTarget selFilter_isSome _

theorem atPartial_checksTarget (f : Partial → Partial × List Word) :
    ChecksTarget [0x13#8, 0x23#8] t s (atPartial t s f) :=
  atVoice_checksTarget selPart_isSome _

theorem atWaveguide_checksTarget (f : Waveguide → Waveguide × List Word) :
    ChecksTarget [0x12#8, 0x22#8] t s (atWaveguide t s f) :=
  atVoice_checksTarget selWg_isSome _

theorem atResonator_checksTarget (f : Resonator → Resonator × List Word) :
    ChecksTarget [0x10#8, 0x20#8] t s (atResonator t s f) :=
  atVoice_checksTarget selRes_isSome _

end

/-- Every command on a unit makes the checks with the selector of its row. -/
theorem exec_checksTarget {i : Instr} {t : Target} {us : List (BitVec 8)} (s : State)
    (h : unitTarget i = some (t, us)) : ChecksTarget us t s (exec i s) := by
  cases i
  all_goals try (cases h; done)
  all_goals obtain ⟨rfl, rfl⟩ := Prod.mk.inj (Option.some.inj h)
  all_goals simp only [exec]
  case stRd t field => exact ⟨_, _, unitOfCode_isSome, fun e he => by rw [execStRd, he]; rfl⟩
  case stWr t field x => exact ⟨_, _, unitOfCode_isSome, fun e he => by rw [execStWr, he]; rfl⟩
  case nseProc t => exact ⟨_, _, selNoise_isSome, fun e he => by rw [execNseProc, he]; rfl⟩
  case envInit | envAtk | envDec | envSus | envRel | envProc | envRst =>
    exact atEnv_checksTarget _
  case fltLp | fltBp | fltHp | fltDf1 | fltClr | fltRst =>
    exact atFilter_checksTarget _ _
  case mltTrig | mltProc | mltClr => exact atVoice_checksTarget selMallet_isSome _
  case nseInit | nseAtk | nseRel | nseClr => exact atVoice_checksTarget selNoise_isSome _
  case prtUpd | prtProc | prtClr => exact atPartial_checksTarget _
  case wgdUpd | wgdProc | wgdClr => exact atWaveguide_checksTarget _
  case resSetp | resAct | resUpd | resProc | resClr =>
    exact atResonator_checksTarget _
  case voiTrig | voiRel | voiPitch | voiUpd | voiClr =>
    exact atVoice_checksTarget selVoice_isSome _

/-- Settles O9: the four checks of the selector that the row of the command has. -/
theorem unitCommandChecksInOrder : Obligations.UnitCommandChecksInOrder := by
  intro i s t us hi
  obtain ⟨α, sel, hsel, hexec⟩ := exec_checksTarget s hi
  have hsome (hu : t.u ∈ us) : ∃ a, sel t.u = some a :=
    Option.isSome_iff_exists.1 ((hsel t.u).trans (List.contains_iff_mem.2 hu))
  have hnone (hu : t.u ∉ us) : sel t.u = none := by
    simpa [hu] using hsel t.u
  refine ⟨fun hv => hexec _ (checkTarget_voice hv),
    fun hv hu => hexec _ (checkTarget_unit hv (hnone hu)), fun hv hu hpart hk => ?index,
    fun hv hu hpart hk => ?reserved⟩
  case index =>
    obtain ⟨a, ha⟩ := hsome hu
    exact hexec _ (checkTarget_index hv ha hpart hk)
  case reserved =>
    obtain ⟨a, ha⟩ := hsome hu
    exact hexec _ (checkTarget_reserved hv ha hpart hk)

end Sys2Proof.Machine
end

section
/-! SUPPORT. The register space of spec/10_state.md R25 to R36 as `ST.RD` and `ST.WR` see it: what a
table of fields promises, and the table of each unit. -/

namespace Sys2Proof.Machine

/-! ### The words that the registers store (R36) -/

section
variable (n : Nat) (w : Word)

theorem wordOfNat_of_natCast {m : Nat} {i : Int} (h : (m : Int) = i) : wordOfNat m = intWord i := by
  rw [← h]
  exact (BitVec.ofInt_natCast 128 m).symm

theorem wordOfBool_opBool : wordOfBool (opBool w) = legalisedWord n .bool w := by
  by_cases hw : w = 0#128
  · simp [wordOfBool, opBool, legalisedWord, hw]
  · simp [wordOfBool, opBool, legalisedWord, hw]

theorem eq_ofInt_of_toInt {i : Int} (h : w.toInt = i) : w = BitVec.ofInt 128 i := by
  rw [← h, BitVec.ofInt_toInt]

theorem wordOfNat_opEnvState : wordOfNat (opEnvState w).code = legalisedWord n .envState w := by
  by_cases hw : 0 ≤ w.toInt ∧ w.toInt ≤ 4
  · obtain ⟨hlo, hhi⟩ := hw
    obtain h | h | h | h | h :
        w.toInt = 0 ∨ w.toInt = 1 ∨ w.toInt = 2 ∨ w.toInt = 3 ∨ w.toInt = 4 := by
      omega
    all_goals
      rw [eq_ofInt_of_toInt w h]
      rfl
  · have hoff : opEnvState w = .off := by
      rw [opEnvState, sint, if_neg (by omega), if_neg (by omega), if_neg (by omega),
        if_neg (by omega)]
    rw [hoff, legalisedWord, if_neg hw]
    rfl

theorem wordOfNat_opFMode : wordOfNat (opFMode w).code = legalisedWord n .fmode w := by
  by_cases hw : 0 ≤ w.toInt ∧ w.toInt ≤ 2
  · obtain ⟨hlo, hhi⟩ := hw
    obtain h | h | h : w.toInt = 0 ∨ w.toInt = 1 ∨ w.toInt = 2 := by omega
    all_goals
      rw [eq_ofInt_of_toInt w h]
      rfl
  · have hlp : opFMode w = .lp := by
      rw [opFMode, sint, if_neg (by omega), if_neg (by omega)]
    rw [hlp, legalisedWord, if_neg hw]
    rfl

theorem wordOfNat_legalNote : wordOfNat (legalNote w).toNat = legalisedWord n .note w :=
  wordOfNat_of_natCast (legalNote_toNat w)

theorem wordOfNat_legalModel : wordOfNat (legalModel w).toNat = legalisedWord n .model w :=
  wordOfNat_of_natCast (legalModel_toNat w)

theorem wordOfNat_legalNPartials :
    wordOfNat (legalNPartials w).toNat = legalisedWord n .npartials w :=
  wordOfNat_of_natCast (legalNPartials_toNat w)

theorem wordOfNat_legalCounter : wordOfNat (legalCounter w).toNat = legalisedWord n .counter w :=
  have ⟨hlo, hhi⟩ := clampInt_bounds (sint w) (show (0 : Int) ≤ Config.framesMax by decide)
  wordOfNat_of_natCast (toNat_ofInt_of_lt 32 hlo (hhi.trans_lt (by decide)))

variable {n}

theorem wordOfNat_legalPtr (hn : 2 ≤ n ∧ n ≤ 2147483648) :
    wordOfNat (legalPtr n w).toNat = legalisedWord n .pointer w :=
  have ⟨hlo, hhi⟩ := clampInt_bounds (sint w) (show (0 : Int) ≤ (n : Int) - 1 by omega)
  wordOfNat_of_natCast (toNat_ofInt_of_lt 32 hlo (by omega))

theorem wordOfNat_legalTlen (hn : 2 ≤ n ∧ n ≤ 2147483648) :
    wordOfNat (legalTlen n w).toNat = legalisedWord n .tubeLength w :=
  have ⟨hlo, hhi⟩ := clampInt_bounds (sint w) (show (1 : Int) ≤ n by omega)
  wordOfNat_of_natCast (toNat_ofInt_of_lt 32 (by omega) (by omega))

end

/-! ### What a table of fields promises (R279, R280) -/

/-- A field that `ST.WR` can write: it exists, and it is not the read-only `k` of a Partial. -/
def FieldWritable (n : Nat) (sel : UnitSel) (f : Nat) : Prop :=
  fieldExists n sel f ∧ ∀ sd, sel = .part sd → f ≠ 0

/-- `read` and `write` are the field table of the unit `sel`: the fields they have are those of R279
and R280, and a write stores the word legalised, if the unit meets `inv`, and changes no other
field. -/
structure FieldTable {α : Type} (n : Nat) (sel : UnitSel) (inv : α → Prop)
    (read : α → Nat → Option Word) (write : α → Word → Nat → Option α) : Prop where
  read_isSome : ∀ u f, (read u f).isSome = true ↔ fieldExists n sel f
  write_isSome : ∀ u w f, (write u w f).isSome = true ↔ FieldWritable n sel f
  stored : ∀ u w f u', inv u → write u w f = some u' →
    read u' f = some (legalisedWord n (registerType sel f) w)
  frame : ∀ u w f u', write u w f = some u' → ∀ f', f' ≠ f → read u' f' = read u f'

/-- What `ST.WR` needs of the voice it writes and of `WG_LEN`: their parts of `StateInv`. -/
def RegistersInv (n : Nat) (v : Voice) : Prop := (2 ≤ n ∧ n ≤ 2147483648) ∧ VoiceInv n v

/-- The table of a unit, read and written inside a voice. -/
theorem FieldTable.ofUnit {α : Type} {n : Nat} {sel : UnitSel} {inv : α → Prop}
    {read : α → Nat → Option Word} {write : α → Word → Nat → Option α}
    (h : FieldTable n sel inv read write) {get : Voice → α} {set : Voice → α → Voice}
    (hget : ∀ v u, get (set v u) = u) (hinv : ∀ v, RegistersInv n v → inv (get v)) :
    FieldTable n sel (RegistersInv n) (fun v => read (get v))
      fun v w f => (write (get v) w f).map (set v) where
  read_isSome v f := h.read_isSome (get v) f
  write_isSome v w f := by
    rw [Option.isSome_map]
    exact h.write_isSome (get v) w f
  stored v w f v' hv hw := by
    obtain ⟨u, hu, rfl⟩ := Option.map_eq_some_iff.1 hw
    rw [hget]
    exact h.stored (get v) w f u (hinv v hv) hu
  frame v w f v' hw f' hf := by
    obtain ⟨u, hu, rfl⟩ := Option.map_eq_some_iff.1 hw
    rw [hget]
    exact h.frame (get v) w f u hu f' hf

/-! ### The scalar units (R25, R27, R28, R31, R32) -/

/-- A table whose fields are numbered from 0 to `b`. -/
theorem isSome_iff_le {α : Type} {table : Nat → Option α} {b : Nat}
    (hsome : ∀ f ≤ b, (table f).isSome = true) (hnone : ∀ k, table (k + b + 1) = none) (f : Nat) :
    (table f).isSome = true ↔ f ≤ b := by
  refine ⟨fun h => ?_, hsome f⟩
  by_contra hf
  obtain ⟨k, rfl⟩ : ∃ k, f = k + b + 1 := ⟨f - (b + 1), by omega⟩
  rw [hnone] at h
  cases h

theorem fieldWritable_iff {n : Nat} {sel : UnitSel} (h : ∀ sd, sel ≠ .part sd) (f : Nat) :
    FieldWritable n sel f ↔ fieldExists n sel f :=
  and_iff_left fun sd hsd => absurd hsd (h sd)

section
variable (n : Nat)

theorem envelope_fieldTable :
    FieldTable n .noiseEnv (fun _ => True) readEnvelope writeEnvelope where
  read_isSome u := isSome_iff_le (fun f hf => by interval_cases f <;> rfl) fun _ => rfl
  write_isSome u w f := by
    rw [fieldWritable_iff (by simp)]
    exact isSome_iff_le (fun f hf => by interval_cases f <;> rfl) (fun _ => rfl) f
  stored u w f u' _ hw := by
    unfold writeEnvelope at hw
    split at hw <;> cases hw
    case h_1 => exact congrArg some (wordOfNat_opEnvState n w)
    all_goals rfl
  frame u w f u' hw f' hf := by
    unfold writeEnvelope at hw
    split at hw <;> cases hw
    -- for each field written, each field read is that one, which `hf` excludes, or is not touched
    all_goals
      unfold readEnvelope
      split
      all_goals first | rfl | exact absurd rfl hf

theorem mallet_fieldTable : FieldTable n .mallet (fun _ => True) readMallet writeMallet where
  read_isSome u := isSome_iff_le (fun f hf => by interval_cases f <;> rfl) fun _ => rfl
  write_isSome u w f := by
    rw [fieldWritable_iff (by simp)]
    exact isSome_iff_le (fun f hf => by interval_cases f <;> rfl) (fun _ => rfl) f
  stored u w f u' _ hw := by
    unfold writeMallet at hw
    split at hw <;> cases hw
    case h_3 => exact congrArg some (wordOfNat_legalCounter n w)
    all_goals rfl
  frame u w f u' hw f' hf := by
    unfold writeMallet at hw
    split at hw <;> cases hw
    all_goals
      unfold readMallet
      split
      all_goals first | rfl | exact absurd rfl hf

theorem noise_fieldTable : FieldTable n .noise (fun _ => True) readNoise writeNoise where
  read_isSome u := isSome_iff_le (fun f hf => by interval_cases f <;> rfl) fun _ => rfl
  write_isSome u w f := by
    rw [fieldWritable_iff (by simp)]
    exact isSome_iff_le (fun f hf => by interval_cases f <;> rfl) (fun _ => rfl) f
  stored u w f u' _ hw := by
    unfold writeNoise at hw
    split at hw <;> cases hw
    case h_4 => exact congrArg some (wordOfNat_opFMode n w)
    case h_7 => exact congrArg some (wordOfBool_opBool n w)
    all_goals rfl
  frame u w f u' hw f' hf := by
    unfold writeNoise at hw
    split at hw <;> cases hw
    all_goals
      unfold readNoise
      split
      all_goals first | rfl | exact absurd rfl hf

theorem resonator_fieldTable (sd : Side) :
    FieldTable n (.res sd) (fun _ => True) readResonator writeResonator where
  read_isSome u := isSome_iff_le (fun f hf => by interval_cases f <;> rfl) fun _ => rfl
  write_isSome u w f := by
    rw [fieldWritable_iff (by simp)]
    exact isSome_iff_le (fun f hf => by interval_cases f <;> rfl) (fun _ => rfl) f
  stored u w f u' _ hw := by
    unfold writeResonator at hw
    split at hw <;> cases hw
    case h_1 | h_20 => exact congrArg some (wordOfBool_opBool n w)
    case h_2 => exact congrArg some (wordOfNat_legalModel n w)
    case h_3 => exact congrArg some (wordOfNat_legalNPartials n w)
    case h_19 => exact congrArg some (wordOfNat_legalCounter n w)
    all_goals rfl
  frame u w f u' hw f' hf := by
    unfold writeResonator at hw
    split at hw <;> cases hw
    all_goals
      unfold readResonator
      split
      all_goals first | rfl | exact absurd rfl hf

theorem voice_fieldTable : FieldTable n .voice (fun _ => True) readVoice writeVoice where
  read_isSome u := isSome_iff_le (fun f hf => by interval_cases f <;> rfl) fun _ => rfl
  write_isSome u w f := by
    rw [fieldWritable_iff (by simp)]
    exact isSome_iff_le (fun f hf => by interval_cases f <;> rfl) (fun _ => rfl) f
  stored u w f u' _ hw := by
    unfold writeVoice at hw
    split at hw <;> cases hw
    case h_1 => exact congrArg some (wordOfNat_legalNote n w)
    case h_4 | h_5 | h_6 => exact congrArg some (wordOfBool_opBool n w)
    case h_10 => exact congrArg some (wordOfNat_legalCounter n w)
    all_goals rfl
  frame u w f u' hw f' hf := by
    unfold writeVoice at hw
    split at hw <;> cases hw
    all_goals
      unfold readVoice
      split
      all_goals first | rfl | exact absurd rfl hf

end

/-! ### The Filters (R26) -/

section
variable {α : Type}

theorem readCoef_isSome (u : BiquadFilter α) (f : Nat) : (readCoef u f).isSome = true ↔ f ≤ 4 :=
  isSome_iff_le (fun f hf => by interval_cases f <;> rfl) (fun _ => rfl) f

theorem writeCoef_isSome (u : BiquadFilter α) (w : Word) (f : Nat) :
    (writeCoef u w f).isSome = true ↔ f ≤ 4 :=
  isSome_iff_le (fun f hf => by interval_cases f <;> rfl) (fun _ => rfl) f

theorem readHist_isSome (u : BiquadFilter α) (h : Nat) : (readHist u h).isSome = true ↔ h ≤ 5 :=
  isSome_iff_le (fun h hh => by interval_cases h <;> rfl) (fun _ => rfl) h

theorem writeHist_isSome (u : BiquadFilter α) (g : α → α) (h : Nat) :
    (writeHist u g h).isSome = true ↔ h ≤ 5 :=
  isSome_iff_le (fun h hh => by interval_cases h <;> rfl) (fun _ => rfl) h

variable {u u' : BiquadFilter α}

/-- A write of a coefficient: it takes the word, and the other coefficients and the history stay. -/
theorem writeCoef_spec {w : Word} {f : Nat} (hw : writeCoef u w f = some u') :
    readCoef u' f = some w ∧ (∀ f', f' ≠ f → readCoef u' f' = readCoef u f') ∧
      ∀ h, readHist u' h = readHist u h := by
  unfold writeCoef at hw
  split at hw <;> cases hw
  all_goals
    refine ⟨rfl, fun f' hf => ?_, fun _ => rfl⟩
    unfold readCoef
    split
    all_goals first | rfl | exact absurd rfl hf

/-- A write of the history changes one of its registers, and the coefficients stay. -/
theorem writeHist_spec {g : α → α} {h : Nat} (hw : writeHist u g h = some u') :
    (∃ x, readHist u h = some x ∧ readHist u' h = some (g x)) ∧
      (∀ h', h' ≠ h → readHist u' h' = readHist u h') ∧ ∀ f, readCoef u' f = readCoef u f := by
  unfold writeHist at hw
  split at hw <;> cases hw
  all_goals
    refine ⟨⟨_, rfl, rfl⟩, fun h' hh => ?_, fun _ => rfl⟩
    unfold readHist
    split
    all_goals first | rfl | exact absurd rfl hh

end

theorem V4.lane_setLane_same (p : V4) (l : Nat) (x : Fx) : (p.setLane l x).lane l = x := by
  unfold V4.setLane
  split
  · rfl
  · rfl
  · rfl
  · next h0 h1 h2 =>
    unfold V4.lane
    split <;> first | rfl | contradiction

theorem V4.lane_setLane_other (p : V4) {l l' : Nat} (x : Fx) (hl : l < 4) (hl' : l' < 4)
    (h : l' ≠ l) : (p.setLane l x).lane l' = p.lane l' := by
  interval_cases l <;> interval_cases l' <;> first | rfl | exact absurd rfl h

section
variable (n : Nat)

/-- A one-lane Filter: the history `h` is field `8 + 4 h`. -/
theorem filterOne_fieldTable {sel : UnitSel} (hsel : sel = .malletFlt ∨ sel = .noiseFlt) :
    FieldTable n sel (fun _ => True) readFilterOne writeFilterOne where
  read_isSome u f := by
    have hexists : fieldExists n sel f ↔ f ≤ 4 ∨ (8 ≤ f ∧ f ≤ 28 ∧ f % 4 = 0) := by
      rcases hsel with rfl | rfl <;> exact Iff.rfl
    rw [hexists, readFilterOne]
    split
    · rw [readCoef_isSome]; omega
    · split
      · rw [readHist_isSome]; omega
      · exact iff_of_false Bool.false_ne_true (by omega)
  write_isSome u w f := by
    have hexists : fieldExists n sel f ↔ f ≤ 4 ∨ (8 ≤ f ∧ f ≤ 28 ∧ f % 4 = 0) := by
      rcases hsel with rfl | rfl <;> exact Iff.rfl
    rw [fieldWritable_iff (by rcases hsel with rfl | rfl <;> simp), hexists, writeFilterOne]
    split
    · rw [writeCoef_isSome]; omega
    · split
      · rw [writeHist_isSome]; omega
      · exact iff_of_false Bool.false_ne_true (by omega)
  stored u w f u' _ hw := by
    have htype : registerType sel f = .fx := by rcases hsel with rfl | rfl <;> rfl
    rw [htype, readFilterOne]
    unfold writeFilterOne at hw
    split at hw
    · next hcoef =>
      obtain ⟨hsame, -, -⟩ := writeCoef_spec hw
      rw [if_pos hcoef, hsame]
      rfl
    · next hcoef =>
      split at hw
      · next hlane =>
        obtain ⟨⟨x, -, hsame⟩, -, -⟩ := writeHist_spec hw
        rw [if_neg hcoef, if_pos hlane, hsame]
        rfl
      · cases hw
  frame u w f u' hw f' hf := by
    unfold writeFilterOne at hw
    rw [readFilterOne, readFilterOne]
    split at hw
    · obtain ⟨-, hcoef, hhist⟩ := writeCoef_spec hw
      rw [hcoef f' hf, hhist]
    · split at hw
      · obtain ⟨-, hhist, hcoef⟩ := writeHist_spec hw
        rw [hcoef]
        split
        · rfl
        · split
          · exact hhist _ (by omega)
          · rfl
      · cases hw

/-- A four-lane Filter: lane `l` of the history `h` is field `8 + 4 h + l`. -/
theorem filterFour_fieldTable (sd : Side) :
    FieldTable n (.post sd) (fun _ => True) readFilterFour writeFilterFour where
  read_isSome u f := by
    rw [fieldExists, readFilterFour]
    split
    · rw [readCoef_isSome]; omega
    · rw [Option.isSome_map, readHist_isSome]; omega
  write_isSome u w f := by
    rw [fieldWritable_iff (by simp), fieldExists, writeFilterFour]
    split
    · rw [writeCoef_isSome]; omega
    · rw [writeHist_isSome]; omega
  stored u w f u' _ hw := by
    rw [readFilterFour]
    unfold writeFilterFour at hw
    split at hw
    · next hcoef =>
      obtain ⟨hsame, -, -⟩ := writeCoef_spec hw
      rw [if_pos hcoef, hsame]
      rfl
    · next hcoef =>
      obtain ⟨⟨x, -, hsame⟩, -, -⟩ := writeHist_spec hw
      rw [if_neg hcoef, hsame, Option.map_some, V4.lane_setLane_same]
      rfl
  frame u w f u' hw f' hf := by
    unfold writeFilterFour at hw
    rw [readFilterFour, readFilterFour]
    split at hw
    · obtain ⟨-, hcoef, hhist⟩ := writeCoef_spec hw
      rw [hcoef f' hf, hhist]
    · obtain ⟨⟨x, hold, hnew⟩, hhist, hcoef⟩ := writeHist_spec hw
      rw [hcoef]
      split
      · rfl
      · by_cases hh : (f' - 8) / 4 = (f - 8) / 4
        · rw [hh, hold, hnew, Option.map_some, Option.map_some,
            V4.lane_setLane_other x w (by omega) (by omega) (by omega)]
        · rw [hhist _ hh]

end

/-! ### The Partials (R29) -/

theorem readPartialHist_isSome (u : Partial) (h : Nat) :
    (readPartialHist u h).isSome = true ↔ h ≤ 3 :=
  isSome_iff_le (fun h hh => by interval_cases h <;> rfl) (fun _ => rfl) h

theorem writePartialHist_isSome (u : Partial) (l : Nat) (w : Word) (h : Nat) :
    (writePartialHist u l w h).isSome = true ↔ h ≤ 3 :=
  isSome_iff_le (fun h hh => by interval_cases h <;> rfl) (fun _ => rfl) h

/-- The fields from 16 on are the history. -/
theorem readPartial_of_ge (k : Nat) (u : Partial) {f : Nat} (h : 16 ≤ f) :
    readPartial k u f = (readPartialHist u ((f - 16) / 4)).map fun x => x.lane ((f - 16) % 4) := by
  obtain ⟨m, rfl⟩ : ∃ m, f = m + 16 := ⟨f - 16, by omega⟩
  rfl

theorem writePartial_of_ge (u : Partial) (w : Word) {f : Nat} (h : 16 ≤ f) :
    writePartial u w f = writePartialHist u ((f - 16) % 4) w ((f - 16) / 4) := by
  obtain ⟨m, rfl⟩ : ∃ m, f = m + 16 := ⟨f - 16, by omega⟩
  rfl

/-- A write of the history changes one lane of one of its registers. -/
theorem writePartialHist_spec {u u' : Partial} {l : Nat} {w : Word} {h : Nat}
    (hw : writePartialHist u l w h = some u') :
    (∃ x, readPartialHist u h = some x ∧ readPartialHist u' h = some (x.setLane l w)) ∧
      (∀ h', h' ≠ h → readPartialHist u' h' = readPartialHist u h') ∧
      ∀ k, ∀ f < 16, readPartial k u' f = readPartial k u f := by
  unfold writePartialHist at hw
  split at hw <;> cases hw
  all_goals
    refine ⟨⟨_, rfl, rfl⟩, fun h' hh => ?_, fun k f hf => by interval_cases f <;> rfl⟩
    unfold readPartialHist
    split
    all_goals first | rfl | exact absurd rfl hh

/-- A write of a scalar field of a Partial, and what it leaves. -/
theorem writePartial_spec_of_lt {u u' : Partial} {w : Word} {f : Nat} (hf : f < 16)
    (hw : writePartial u w f = some u') (k : Nat) :
    readPartial k u' f = some w ∧ (∀ f' < 16, f' ≠ f → readPartial k u' f' = readPartial k u f') ∧
      ∀ h, readPartialHist u' h = readPartialHist u h := by
  interval_cases f <;> cases hw
  all_goals
    refine ⟨rfl, fun f' hlt hne => ?_, fun _ => rfl⟩
    interval_cases f'
    all_goals first | rfl | exact absurd rfl hne

theorem partial_fieldTable (n : Nat) (sd : Side) (k : Nat) :
    FieldTable n (.part sd) (fun _ => True) (readPartial k) writePartial where
  read_isSome u f := by
    rw [fieldExists]
    rcases Nat.lt_or_ge f 16 with hf | hf
    · refine iff_of_true ?_ (by omega)
      interval_cases f <;> rfl
    · rw [readPartial_of_ge k u hf, Option.isSome_map, readPartialHist_isSome]; omega
  write_isSome u w f := by
    have hwritable : FieldWritable n (.part sd) f ↔ f ≤ 31 ∧ f ≠ 0 :=
      and_congr_right fun _ => ⟨fun h => h sd rfl, fun h _ _ => h⟩
    rw [hwritable]
    rcases Nat.lt_or_ge f 16 with hf | hf
    · interval_cases f <;> simp [writePartial]
    · rw [writePartial_of_ge u w hf, writePartialHist_isSome]; omega
  stored u w f u' _ hw := by
    rcases Nat.lt_or_ge f 16 with hf | hf
    · exact (writePartial_spec_of_lt hf hw k).1
    · rw [writePartial_of_ge u w hf] at hw
      obtain ⟨⟨x, -, hsame⟩, -, -⟩ := writePartialHist_spec hw
      rw [readPartial_of_ge k u' hf, hsame, Option.map_some, V4.lane_setLane_same]
      rfl
  frame u w f u' hw f' hne := by
    rcases Nat.lt_or_ge f 16 with hf | hf
    · obtain ⟨-, hscalar, hhist⟩ := writePartial_spec_of_lt hf hw k
      rcases Nat.lt_or_ge f' 16 with hf' | hf'
      · exact hscalar f' hf' hne
      · rw [readPartial_of_ge k u' hf', readPartial_of_ge k u hf', hhist]
    · rw [writePartial_of_ge u w hf] at hw
      obtain ⟨⟨x, hold, hnew⟩, hhist, hscalar⟩ := writePartialHist_spec hw
      rcases Nat.lt_or_ge f' 16 with hf' | hf'
      · exact hscalar k f' hf'
      · rw [readPartial_of_ge k u' hf', readPartial_of_ge k u hf']
        by_cases hh : (f' - 16) / 4 = (f - 16) / 4
        · rw [hh, hold, hnew, Option.map_some, Option.map_some,
            V4.lane_setLane_other x w (by omega) (by omega) (by omega)]
        · rw [hhist _ hh]

/-! ### The Waveguides (R30) -/

section
variable {n : Nat} {u u' : Waveguide} {w : Word} {f : Nat}

/-- A field id above the registers is a word of the delay buffer, or no field. -/
theorem readWaveguide_of_gt (n : Nat) (u : Waveguide) (hf : 16 < f) :
    readWaveguide n u f =
      if 0x10000 ≤ f ∧ (f - 0x10000) / 4 < n then some (u.buf.read (f - 0x10000)) else none := by
  obtain ⟨m, rfl⟩ : ∃ m, f = m + 17 := ⟨f - 17, by omega⟩
  rfl

theorem writeWaveguide_of_gt (n : Nat) (u : Waveguide) (w : Word) (hf : 16 < f) :
    writeWaveguide n u w f =
      if 0x10000 ≤ f ∧ (f - 0x10000) / 4 < n then
        some { u with buf := u.buf.write (f - 0x10000) w }
      else none := by
  obtain ⟨m, rfl⟩ : ∃ m, f = m + 17 := ⟨f - 17, by omega⟩
  rfl

/-- A write of a register of a Waveguide leaves the other registers and the delay buffer. -/
theorem writeWaveguide_keeps_of_le (hf : f ≤ 16) (hw : writeWaveguide n u w f = some u') :
    (∀ f' ≤ 16, f' ≠ f → readWaveguide n u' f' = readWaveguide n u f') ∧ u'.buf = u.buf := by
  interval_cases f <;> cases hw
  all_goals
    refine ⟨fun f' hle hne => ?_, rfl⟩
    interval_cases f'
    all_goals first | rfl | exact absurd rfl hne

theorem writeWaveguide_stored_of_le (hn : 2 ≤ n ∧ n ≤ 2147483648) (sd : Side) (hf : f ≤ 16)
    (hw : writeWaveguide n u w f = some u') :
    readWaveguide n u' f = some (legalisedWord n (registerType (.wg sd) f) w) := by
  unfold writeWaveguide at hw
  split at hw
  case h_18 =>
    simp only [imp_false] at *
    omega
  all_goals cases hw
  case h_1 => exact congrArg some (wordOfBool_opBool n w)
  case h_10 | h_11 => exact congrArg some (wordOfNat_legalPtr w hn)
  case h_13 => exact congrArg some (wordOfNat_legalTlen w hn)
  all_goals rfl

theorem registerType_wg_of_gt (sd : Side) (hf : 16 < f) : registerType (.wg sd) f = .fx := by
  obtain ⟨m, rfl⟩ : ∃ m, f = m + 17 := ⟨f - 17, by omega⟩
  rfl

theorem waveguide_fieldTable (n : Nat) (sd : Side) :
    FieldTable n (.wg sd) (fun u => (2 ≤ n ∧ n ≤ 2147483648) ∧ WaveguideInv n u) (readWaveguide n)
      (writeWaveguide n) where
  read_isSome u f := by
    rw [fieldExists]
    rcases Nat.lt_or_ge 16 f with hf | hf
    · rw [readWaveguide_of_gt n u hf]
      split
      · exact iff_of_true rfl (by omega)
      · exact iff_of_false Bool.false_ne_true (by omega)
    · refine iff_of_true ?_ (.inl hf)
      interval_cases f <;> rfl
  write_isSome u w f := by
    rw [fieldWritable_iff (by simp), fieldExists]
    rcases Nat.lt_or_ge 16 f with hf | hf
    · rw [writeWaveguide_of_gt n u w hf]
      split
      · exact iff_of_true rfl (by omega)
      · exact iff_of_false Bool.false_ne_true (by omega)
    · refine iff_of_true ?_ (.inl hf)
      interval_cases f <;> rfl
  stored u w f u' hinv hw := by
    obtain ⟨hn, -, -, -, hwf, -⟩ := hinv
    rcases Nat.lt_or_ge 16 f with hf | hf
    · rw [writeWaveguide_of_gt n u w hf] at hw
      split at hw
      · next hbuf =>
        cases hw
        rw [readWaveguide_of_gt n _ hf, if_pos hbuf, Memory.read_write_same _ _ _ hwf,
          registerType_wg_of_gt sd hf]
        rfl
      · cases hw
    · exact writeWaveguide_stored_of_le hn sd hf hw
  frame u w f u' hw f' hne := by
    rcases Nat.lt_or_ge 16 f with hf | hf
    · rw [writeWaveguide_of_gt n u w hf] at hw
      split at hw
      · cases hw
        rcases Nat.lt_or_ge 16 f' with hf' | hf'
        · rw [readWaveguide_of_gt n _ hf', readWaveguide_of_gt n u hf']
          split
          · rw [Memory.read_write_other _ _ _ _ (by omega)]
          · rfl
        · interval_cases f' <;> rfl
      · cases hw
    · obtain ⟨hregs, hbuf⟩ := writeWaveguide_keeps_of_le hf hw
      rcases Nat.lt_or_ge 16 f' with hf' | hf'
      · rw [readWaveguide_of_gt n u' hf', readWaveguide_of_gt n u hf', hbuf]
      · exact hregs f' hf' hne

end

end Sys2Proof.Machine
end

section
/-! SUPPORT. `ST.RD` and `ST.WR` of spec/49_system.md R279 and R280 on the register space of a
voice: the tables of its units side by side, what a write leaves of the other units, and the reset
values. -/

namespace Sys2Proof.Machine

/-! ### The units of a voice (R279, R280) -/

/-- The table of every unit, inside a voice. -/
theorem unit_fieldTable (n : Nat) (sel : UnitSel) {k : Nat} (hk : k < 64) :
    FieldTable n sel (RegistersInv n) (readUnit n sel k) fun v w f => writeUnit n sel k v w f := by
  cases sel with
  | voice =>
    have ⟨hread, hwrite, hstored, hframe⟩ := voice_fieldTable n
    exact ⟨hread, hwrite, fun v w f v' _ => hstored v w f v' trivial, hframe⟩
  | mallet => exact (mallet_fieldTable n).ofUnit (fun _ _ => rfl) fun _ _ => trivial
  | malletFlt =>
    exact (filterOne_fieldTable n (.inl rfl)).ofUnit (fun _ _ => rfl) fun _ _ => trivial
  | noise => exact (noise_fieldTable n).ofUnit (fun _ _ => rfl) fun _ _ => trivial
  | noiseFlt =>
    exact (filterOne_fieldTable n (.inr rfl)).ofUnit (fun _ _ => rfl) fun _ _ => trivial
  | noiseEnv => exact (envelope_fieldTable n).ofUnit (fun _ _ => rfl) fun _ _ => trivial
  | res sd =>
    exact (resonator_fieldTable n sd).ofUnit (get := fun v => v.res sd)
      (fun v r => Voice.setRes_res_same v sd r) fun _ _ => trivial
  | post sd =>
    exact (filterFour_fieldTable n sd).ofUnit (get := fun v => (v.res sd).post)
      (fun v u => congrArg Resonator.post (Voice.setRes_res_same v sd _)) fun _ _ => trivial
  | wg sd =>
    exact (waveguide_fieldTable n sd).ofUnit (get := fun v => (v.res sd).wg)
      (fun v u => congrArg Resonator.wg (Voice.setRes_res_same v sd _)) fun v ⟨hn, hv⟩ =>
        have ⟨_, _, hwg⟩ := hv.res sd
        ⟨hn, hwg⟩
  | part sd =>
    refine (partial_fieldTable n sd k).ofUnit (get := fun v => bankGet (v.res sd).parts k)
      (fun v u => ?_) fun _ _ => trivial
    rw [Voice.setPart_res_same]
    exact bankGet_bankSet_same _ _ _ hk

/-! ### What a write leaves of the other units -/

theorem writeVoice_keeps {v v' : Voice} {w : Word} {f : Nat} (hw : writeVoice v w f = some v') :
    v'.mallet = v.mallet ∧ v'.noise = v.noise ∧ ∀ sd, v'.res sd = v.res sd := by
  unfold writeVoice at hw
  split at hw <;> cases hw
  all_goals exact ⟨rfl, rfl, fun _ => rfl⟩

theorem writeMallet_keeps {u u' : Mallet} {w : Word} {f : Nat} (hw : writeMallet u w f = some u') :
    u'.flt = u.flt := by
  unfold writeMallet at hw
  split at hw <;> cases hw
  all_goals rfl

theorem writeNoise_keeps {u u' : Noise} {w : Word} {f : Nat} (hw : writeNoise u w f = some u') :
    u'.flt = u.flt ∧ u'.env = u.env := by
  unfold writeNoise at hw
  split at hw <;> cases hw
  all_goals exact ⟨rfl, rfl⟩

theorem writeResonator_keeps {u u' : Resonator} {w : Word} {f : Nat}
    (hw : writeResonator u w f = some u') :
    u'.post = u.post ∧ u'.wg = u.wg ∧ u'.parts = u.parts := by
  unfold writeResonator at hw
  split at hw <;> cases hw
  all_goals exact ⟨rfl, rfl, rfl⟩

section
variable {n k f : Nat} {v : Voice} {sel : UnitSel}

/-- A Resonator replaced by one whose units read alike, but for the unit written. -/
theorem readUnit_setRes {sd : Side} {r : Resonator}
    (hres : sel = .res sd → readResonator r f = readResonator (v.res sd) f)
    (hpost : sel = .post sd → r.post = (v.res sd).post) (hwg : sel = .wg sd → r.wg = (v.res sd).wg)
    (hpart : sel = .part sd → bankGet r.parts k = bankGet (v.res sd).parts k) :
    readUnit n sel k (v.setRes sd r) f = readUnit n sel k v f := by
  have hother {sd' : Side} (h : sd' ≠ sd) : (v.setRes sd r).res sd' = v.res sd' :=
    v.setRes_res_other sd sd' r h
  have hsame : (v.setRes sd r).res sd = r := Voice.setRes_res_same v sd r
  cases sel with
  | voice => cases sd <;> rfl
  | mallet => rw [readUnit, readUnit, Voice.setRes_mallet]
  | malletFlt => rw [readUnit, readUnit, Voice.setRes_mallet]
  | noise => rw [readUnit, readUnit, Voice.setRes_noise]
  | noiseFlt => rw [readUnit, readUnit, Voice.setRes_noise]
  | noiseEnv => rw [readUnit, readUnit, Voice.setRes_noise]
  | res sd' =>
    rw [readUnit, readUnit]
    by_cases h : sd' = sd
    · subst h; rw [hsame, hres rfl]
    · rw [hother h]
  | post sd' =>
    rw [readUnit, readUnit]
    by_cases h : sd' = sd
    · subst h; rw [hsame, hpost rfl]
    · rw [hother h]
  | wg sd' =>
    rw [readUnit, readUnit]
    by_cases h : sd' = sd
    · subst h; rw [hsame, hwg rfl]
    · rw [hother h]
  | part sd' =>
    rw [readUnit, readUnit]
    by_cases h : sd' = sd
    · subst h; rw [hsame, hpart rfl]
    · rw [hother h]

/-- A write to a unit leaves the registers of every other unit of the voice. -/
theorem readUnit_writeUnit_other {v' : Voice} {sel' : UnitSel} {k' f' : Nat} {w : Word}
    (hw : writeUnit n sel k v w f = some v')
    (hother : sel' = sel → ∃ sd, sel = .part sd ∧ k' ≠ k) :
    readUnit n sel' k' v' f' = readUnit n sel' k' v f' := by
  have hne (h : ∀ sd, sel ≠ .part sd) : sel' ≠ sel := fun heq =>
    have ⟨sd, hsd, _⟩ := hother heq
    h sd hsd
  cases sel with
  | voice =>
    obtain ⟨hmallet, hnoise, hres⟩ := writeVoice_keeps hw
    cases sel' with
    | voice => exact absurd rfl (hne (by simp))
    | mallet | malletFlt => rw [readUnit, readUnit, hmallet]
    | noise | noiseFlt | noiseEnv => rw [readUnit, readUnit, hnoise]
    | res | post | wg | part => rw [readUnit, readUnit, hres]
  | mallet =>
    obtain ⟨u, hu, rfl⟩ := Option.map_eq_some_iff.1 hw
    have hflt := writeMallet_keeps hu
    cases sel' with
    | mallet => exact absurd rfl (hne (by simp))
    | malletFlt => exact congrArg (readFilterOne · f') hflt
    | _ => rfl
  | noise =>
    obtain ⟨u, hu, rfl⟩ := Option.map_eq_some_iff.1 hw
    obtain ⟨hflt, henv⟩ := writeNoise_keeps hu
    cases sel' with
    | noise => exact absurd rfl (hne (by simp))
    | noiseFlt => exact congrArg (readFilterOne · f') hflt
    | noiseEnv => exact congrArg (readEnvelope · f') henv
    | _ => rfl
  | malletFlt =>
    obtain ⟨u, -, rfl⟩ := Option.map_eq_some_iff.1 hw
    cases sel' with
    | malletFlt => exact absurd rfl (hne (by simp))
    | _ => rfl
  | noiseFlt =>
    obtain ⟨u, -, rfl⟩ := Option.map_eq_some_iff.1 hw
    cases sel' with
    | noiseFlt => exact absurd rfl (hne (by simp))
    | _ => rfl
  | noiseEnv =>
    obtain ⟨u, -, rfl⟩ := Option.map_eq_some_iff.1 hw
    cases sel' with
    | noiseEnv => exact absurd rfl (hne (by simp))
    | _ => rfl
  | res sd =>
    obtain ⟨r, hr, rfl⟩ := Option.map_eq_some_iff.1 hw
    obtain ⟨hpost, hwg, hparts⟩ := writeResonator_keeps hr
    exact readUnit_setRes (fun h => absurd h (hne (by simp))) (fun _ => hpost) (fun _ => hwg)
      fun _ => by rw [hparts]
  | post sd =>
    obtain ⟨u, -, rfl⟩ := Option.map_eq_some_iff.1 hw
    exact readUnit_setRes (fun _ => rfl) (fun h => absurd h (hne (by simp))) (fun _ => rfl)
      fun _ => rfl
  | wg sd =>
    obtain ⟨u, -, rfl⟩ := Option.map_eq_some_iff.1 hw
    exact readUnit_setRes (fun _ => rfl) (fun _ => rfl) (fun h => absurd h (hne (by simp)))
      fun _ => rfl
  | part sd =>
    obtain ⟨u, -, rfl⟩ := Option.map_eq_some_iff.1 hw
    refine readUnit_setRes (fun _ => rfl) (fun _ => rfl) (fun _ => rfl) fun h => ?_
    obtain ⟨_, -, hk⟩ := hother h
    exact bankGet_bankSet_other _ _ _ _ hk

end

/-! ### `ST.RD` and `ST.WR` (R279, R280) -/

theorem opField_of_nonneg {field : Word} (h : 0 ≤ field.toInt) :
    opField field = some field.toInt.toNat :=
  if_neg (Int.not_lt.2 h)

theorem opField_of_neg {field : Word} (h : field.toInt < 0) : opField field = none := if_pos h

theorem Target.wf_k_lt {nv : Nat} {us : List (BitVec 8)} {t : Target} (h : t.wf nv us = true) :
    t.k.toNat < 64 := by
  obtain ⟨-, -, hpart, hzero⟩ := (Target.wf_iff nv us t).1 h
  by_cases hu : t.u = 0x13#8 ∨ t.u = 0x23#8
  · exact Nat.lt_succ_of_le (hpart hu)
  · rw [hzero hu]
    decide

theorem opField_bind_none {α : Type} {field : Word} {table : Nat → Option α}
    (h : 0 ≤ field.toInt → table field.toInt.toNat = none) : (opField field).bind table = none := by
  rcases Int.lt_or_le field.toInt 0 with hneg | hpos
  · rw [opField_of_neg hneg, Option.bind_none]
  · rw [opField_of_nonneg hpos, Option.bind_some, h hpos]

section
variable {s : State} {t : Target} {field value : Word} {sel : UnitSel}

section
variable (hwf : t.wf s.nv allUnits = true) (hsel : unitOfCode t.u = some sel)
include hwf hsel

theorem exec_stRd_some {w : Word} (hpos : 0 ≤ field.toInt)
    (h : registerWord s t.v.toNat sel t.k.toNat field.toInt.toNat = some w) :
    exec (.stRd t field) s = .next (respond .ok [w] s) := by
  rw [registerWord] at h
  simp only [exec, execStRd, checkTarget_wf unitOfCode allUnits s.nv t sel hwf hsel,
    opField_of_nonneg hpos, Option.bind_some, h, complete]

theorem exec_stRd_none
    (h : 0 ≤ field.toInt → registerWord s t.v.toNat sel t.k.toNat field.toInt.toNat = none) :
    exec (.stRd t field) s = .next (respond .field [] s) := by
  simp only [registerWord] at h
  simp only [exec, execStRd, checkTarget_wf unitOfCode allUnits s.nv t sel hwf hsel,
    opField_bind_none h, raiseError]

theorem exec_stWr_some {v : Voice} (hpos : 0 ≤ field.toInt)
    (h : writeUnit s.params.wgLen sel t.k.toNat (voiceOf s t) value field.toInt.toNat = some v) :
    exec (.stWr t field value) s = .next (respond .ok [] (withVoice s t v)) := by
  simp only [exec, execStWr, checkTarget_wf unitOfCode allUnits s.nv t sel hwf hsel,
    opField_of_nonneg hpos, Option.bind_some, h, complete]

theorem exec_stWr_none (h : 0 ≤ field.toInt →
      writeUnit s.params.wgLen sel t.k.toNat (voiceOf s t) value field.toInt.toNat = none) :
    exec (.stWr t field value) s = .next (respond .field [] s) := by
  simp only [exec, execStWr, checkTarget_wf unitOfCode allUnits s.nv t sel hwf hsel,
    opField_bind_none h, raiseError]

end

/-- All that `ST.WR` can do: answer a status alone, or write one register. -/
theorem exec_stWr_next {s' : State} (h : exec (.stWr t field value) s = .next s') :
    (∃ e, s' = respond e [] s) ∨
    ∃ sel v, checkTarget unitOfCode s.nv t = .ok sel ∧ 0 ≤ field.toInt ∧
      writeUnit s.params.wgLen sel t.k.toNat (voiceOf s t) value field.toInt.toNat = some v ∧
      s' = respond .ok [] (withVoice s t v) := by
  cases hc : checkTarget unitOfCode s.nv t with
  | error e =>
    simp only [exec, execStWr, hc] at h
    exact .inl ⟨e, (Host.Outcome.next.inj h).symm⟩
  | ok sel =>
    obtain ⟨-, hsel, -, -⟩ := checkTarget_ok hc
    have hwf := checkTarget_ok_wf unitOfCode_isSome hc
    by_cases hpos : 0 ≤ field.toInt
    · cases hv : writeUnit s.params.wgLen sel t.k.toNat (voiceOf s t) value field.toInt.toNat with
      | none =>
        rw [exec_stWr_none hwf hsel fun _ => hv] at h
        exact .inl ⟨.field, (Host.Outcome.next.inj h).symm⟩
      | some v =>
        rw [exec_stWr_some hwf hsel hpos hv] at h
        exact .inr ⟨sel, v, rfl, hpos, hv, (Host.Outcome.next.inj h).symm⟩
    · rw [exec_stWr_none hwf hsel fun h0 => absurd h0 hpos] at h
      exact .inl ⟨.field, (Host.Outcome.next.inj h).symm⟩

end

/-- Settles O20: the fields of the table of the unit are those it has. -/
theorem stRdAnswersRegister : Obligations.StRdAnswersRegister := by
  intro s t field sel hwf hsel
  have hfields (f : Nat) : (registerWord s t.v.toNat sel t.k.toNat f).isSome = true ↔
      fieldExists s.params.wgLen sel f :=
    (unit_fieldTable s.params.wgLen sel (Target.wf_k_lt hwf)).read_isSome _ f
  refine ⟨fun hpos hexists => ?_, fun hno => ?_⟩
  · obtain ⟨w, hw⟩ := Option.isSome_iff_exists.1 ((hfields _).2 hexists)
    exact ⟨w, hw, exec_stRd_some hwf hsel hpos hw⟩
  · refine exec_stRd_none hwf hsel fun hpos => ?_
    have hmissing := hno.resolve_left (Int.not_lt.2 hpos)
    rwa [← hfields, Option.not_isSome_iff_eq_none] at hmissing

/-- Settles O21: the field table of the unit, at the voice that the target addresses. -/
theorem stWrStoresLegalisedWord : Obligations.StWrStoresLegalisedWord := by
  intro s t field value sel hinv hwf hsel
  obtain ⟨hv, -, -, -⟩ := (Target.wf_iff s.nv allUnits t).1 hwf
  have htable := unit_fieldTable s.params.wgLen sel (Target.wf_k_lt hwf)
  have hregs : RegistersInv s.params.wgLen (voiceOf s t) := ⟨hinv.1, hinv.voiceAt t.v.toNat⟩
  refine ⟨fun hpos hexists hrw => ?_, fun hno => ?_⟩
  · have hwritable : FieldWritable s.params.wgLen sel field.toInt.toNat :=
      ⟨hexists, fun sd hsd => by have := hrw sd hsd; omega⟩
    obtain ⟨v, hw⟩ := Option.isSome_iff_exists.1
      ((htable.write_isSome (voiceOf s t) value _).2 hwritable)
    refine ⟨_, exec_stWr_some hwf hsel hpos hw, rfl, ?_⟩
    rw [registerWord, respond_voices, setVoice_voices, voiceAt_set_same _ _ _ hv]
    exact htable.stored _ value _ v hregs hw
  · refine exec_stWr_none hwf hsel fun hpos => ?_
    rw [← Option.not_isSome_iff_eq_none, htable.write_isSome]
    rintro ⟨hexists, hrw⟩
    rcases hno with hneg | hmissing | ⟨⟨sd, hsd⟩, hzero⟩
    · omega
    · exact hmissing hexists
    · exact hrw sd hsd (by omega)

theorem unitOfCode_inj {u u' : BitVec 8} {sel : UnitSel} (h : unitOfCode u = some sel)
    (h' : unitOfCode u' = some sel) : u = u' := by
  have hmem := unitOfCode_cases h
  have hmem' := unitOfCode_cases h'
  obtain _ | _ | _ | _ | _ | _ | (_ | _) | (_ | _) | (_ | _) | (_ | _) := sel
  all_goals simp_all

theorem unitOfCode_partial {u : BitVec 8} (h : u = 0x13#8 ∨ u = 0x23#8) :
    ∃ sd, unitOfCode u = some (.part sd) := by
  rcases h with rfl | rfl
  · exact ⟨.a, rfl⟩
  · exact ⟨.b, rfl⟩

/-- Two legal targets of one kind of unit agree in `K`, or address two Partials of a bank. -/
theorem Target.k_eq_or_partials {nv : Nat} {t t' : Target} {sel : UnitSel}
    (hwf : t.wf nv allUnits = true) (hwf' : t'.wf nv allUnits = true)
    (hsel : unitOfCode t.u = some sel) (hsel' : unitOfCode t'.u = some sel) :
    t'.k = t.k ∨ ∃ sd, sel = .part sd ∧ t'.k.toNat ≠ t.k.toNat := by
  obtain ⟨-, -, -, hk⟩ := (Target.wf_iff nv allUnits t).1 hwf
  obtain ⟨-, -, -, hk'⟩ := (Target.wf_iff nv allUnits t').1 hwf'
  rw [unitOfCode_inj hsel' hsel] at hk'
  by_cases hpart : t.u = 0x13#8 ∨ t.u = 0x23#8
  · obtain ⟨sd, hsd⟩ := unitOfCode_partial hpart
    by_cases hkk : t'.k = t.k
    · exact .inl hkk
    · exact .inr ⟨sd, Option.some.inj (hsel.symm.trans hsd), fun h => hkk (BitVec.eq_of_toNat_eq h)⟩
  · exact .inl ((hk' hpart).trans (hk hpart).symm)

/-- Settles O22: another voice is not written, another unit of the voice reads as before, and so
does another field of the unit. -/
theorem stWrLeavesOtherRegisters : Obligations.StWrLeavesOtherRegisters := by
  intro s s' t field value h t' sel' f' hwf' hsel' hne
  rcases exec_stWr_next h with ⟨e, rfl⟩ | ⟨sel, v, hc, hpos, hw, rfl⟩
  · rfl
  obtain ⟨hv, hsel, -, -⟩ := checkTarget_ok hc
  have hwf := checkTarget_ok_wf unitOfCode_isSome hc
  rw [registerWord, registerWord, respond_voices, setVoice_voices]
  by_cases hvoice : t'.v = t.v
  case neg =>
    rw [voiceAt_set_other _ _ _ _ fun heq => hvoice (BitVec.eq_of_toNat_eq heq)]
    rfl
  rw [hvoice, voiceAt_set_same _ _ _ hv]
  by_cases hunit : sel' = sel
  case neg => exact readUnit_writeUnit_other hw fun heq => absurd heq hunit
  subst hunit
  rcases Target.k_eq_or_partials hwf hwf' hsel hsel' with hk | ⟨sd, hsd, hk⟩
  · have hsame : t' = t := by
      have hu := unitOfCode_inj hsel' hsel
      cases t
      cases t'
      simp_all
    have hf : f' ≠ field.toInt.toNat := fun heq => hne ⟨hsame, by omega⟩
    rw [hk]
    exact (unit_fieldTable s.params.wgLen sel' (Target.wf_k_lt hwf)).frame _ value _ v hw f' hf
  · exact readUnit_writeUnit_other hw fun _ => ⟨sd, hsd, hk⟩

/-! ### The reset values (R320, R321) -/

section
variable {f : Nat} {w : Word}

theorem readFilterOne_reset (h : readFilterOne (.resetWith 0#128) f = some w) : w = 0#128 := by
  unfold readFilterOne readCoef readHist at h
  split at h
  · split at h <;> cases h
    all_goals rfl
  · split at h
    · split at h <;> cases h
      all_goals rfl
    · cases h

theorem readFilterFour_reset (h : readFilterFour (.resetWith .zero) f = some w) : w = 0#128 := by
  unfold readFilterFour at h
  split at h
  · unfold readCoef at h
    split at h <;> cases h
    all_goals rfl
  · obtain ⟨x, hx, rfl⟩ := Option.map_eq_some_iff.1 h
    unfold readHist at hx
    split at hx <;> cases hx
    all_goals exact V4.lane_zero _

theorem bankGet_reset (k : Nat) : bankGet Resonator.reset.parts k = Partial.reset := by
  by_cases hk : k < 64
  · rw [bankGet_eq _ _ hk]
    exact Vector.getElem_replicate hk
  · simp [bankGet, Config.npart, hk]

theorem readPartial_reset (sd : Side) (k : Nat) (h : readPartial k .reset f = some w) :
    w = registerReset (.part sd) k f := by
  rcases Nat.lt_or_ge f 16 with hf | hf
  · interval_cases f <;> cases h
    all_goals rfl
  · rw [readPartial_of_ge k _ hf] at h
    obtain ⟨x, hx, rfl⟩ := Option.map_eq_some_iff.1 h
    obtain ⟨m, rfl⟩ : ∃ m, f = m + 16 := ⟨f - 16, by omega⟩
    unfold readPartialHist at hx
    split at hx <;> cases hx
    all_goals exact V4.lane_zero _

theorem readWaveguide_reset {n : Nat} (h : readWaveguide n .reset f = some w) : w = 0#128 := by
  rcases Nat.lt_or_ge 16 f with hf | hf
  · rw [readWaveguide_of_gt n _ hf] at h
    split at h <;> cases h
    rfl
  · interval_cases f <;> cases h
    all_goals rfl

theorem Voice.res_reset (sd : Side) : Voice.reset.res sd = Resonator.reset := by cases sd <;> rfl

/-- Every register of a voice at reset reads as its reset value. -/
theorem readUnit_reset {n : Nat} {sel : UnitSel} {k : Nat}
    (h : readUnit n sel k .reset f = some w) : w = registerReset sel k f := by
  cases sel with
  | voice =>
    rw [readUnit] at h
    unfold readVoice at h
    split at h <;> cases h
    all_goals rfl
  | mallet =>
    rw [readUnit] at h
    unfold readMallet at h
    split at h <;> cases h
    all_goals rfl
  | malletFlt => exact readFilterOne_reset h
  | noise =>
    rw [readUnit] at h
    unfold readNoise at h
    split at h <;> cases h
    all_goals rfl
  | noiseFlt => exact readFilterOne_reset h
  | noiseEnv =>
    rw [readUnit] at h
    unfold readEnvelope at h
    split at h <;> cases h
    all_goals rfl
  | res sd =>
    rw [readUnit, Voice.res_reset] at h
    unfold readResonator at h
    split at h <;> cases h
    all_goals rfl
  | post sd =>
    rw [readUnit, Voice.res_reset] at h
    exact readFilterFour_reset h
  | wg sd =>
    rw [readUnit, Voice.res_reset] at h
    exact readWaveguide_reset h
  | part sd =>
    rw [readUnit, Voice.res_reset, bankGet_reset] at h
    exact readPartial_reset sd k h

end

/-- Settles O17: the registers unit by unit; the globals and the parameters are read off the reset
state. -/
theorem resetRegisterValues : Obligations.ResetRegisterValues := by
  refine ⟨fun v sel k f w hv h => ?_, rfl, fun _ => rfl, rfl, rfl, rfl, rfl, fun _ => rfl⟩
  have hvoice : voiceAt State.reset.voices v = Voice.reset :=
    List.eq_of_mem_replicate (voiceAt_mem _ v hv)
  rw [registerWord, hvoice] at h
  exact readUnit_reset h

end Sys2Proof.Machine
end
